-- ==== Sys2Proof/Word.lean ====
section
/-! DEFINITION. The word types of the W318: bytes and 16-bit words as they travel on the ring, on the
links and in the address spaces (00 section 5.4). Quantities that the manual calls integers (openings,
flows, counts, milliseconds) are natural numbers; what wraps or is sliced into bits is a bit vector. -/

namespace Sys2Proof

/-- One byte on the line. -/
abbrev Byte := BitVec 8

/-- One word of the TABLE or STATE space. -/
abbrev Word := BitVec 16

/-- A gate number, 0..23 (00 section 5.5). -/
abbrev GateIx := Fin 24

/-- A gauge number, 0..7. -/
abbrev GaugeIx := Fin 8

/-- A turbine unit number, 0..5. -/
abbrev UnitIx := Fin 6

end Sys2Proof
end

