-- ==== Sys2Proof/Config.lean ====
section
/-! DEFINITION. The values the manual leaves open. They have no body: nothing can be proved of them, so a
claim about the part holds whatever they are. Each is applied to `State.freeCount`, which the step that
draws one advances (log 13). -/

namespace Sys2Proof.Config

/-- R149: whether a RESET_N assertion shorter than the data sheet's minimum width is taken as a full
assertion (true) or ignored whole (false). -/
opaque shortResetTaken : Nat → Bool

/-- R161: whether an image whose rewriting by COMMISSION_LOCK is cut short carries a good checksum. -/
opaque cutImageGood : Nat → Bool

end Sys2Proof.Config
end

