-- ==== Sys2Proof/Syntax.lean ====
section
/-! DEFINITION. The commands of the part: one constructor of `Instr` for each row of
spec/opcode_table.json, with the operands the spec's text gives the event. What each does is said in
Machine/ alone. -/

namespace Sys2Proof

/-- A ring frame of eight bytes (11 Table 11-1): byte 0 is kind and flags. -/
structure Frame where
  kind : BitVec 4
  flags : BitVec 4
  id : Byte
  valueA : Word
  valueB : Word
  tag : Byte
  check : Byte
deriving DecidableEq, Repr

/-- The fields of a good frame whose kind the command itself names; the check byte follows from them. -/
structure FrameFields where
  flags : BitVec 4
  id : Byte
  valueA : Word
  valueB : Word
  tag : Byte
deriving DecidableEq, Repr

/-- The fields of a good CYCLE marker (11 Table 11-2): flags, id and tag are not examined. -/
structure MarkerFields where
  flags : BitVec 4
  id : Byte
  cycle : BitVec 32
  tag : Byte
deriving DecidableEq, Repr

/-- The fields of a good MGMT_REQ frame whose op the command names. -/
structure Request where
  flags : BitVec 4
  valueA : Word
  valueB : Word
  tag : Byte
deriving DecidableEq, Repr

/-- The fields of a good MGMT_REQ COMMAND frame whose command code the command names: value B carries the
code and the argument (11 section 11.2). -/
structure CommandRequest where
  flags : BitVec 4
  valueA : Word
  arg : Byte
  tag : Byte
deriving DecidableEq, Repr

/-- The two cascade link ports (06). -/
inductive Port where
  | up
  | down
deriving DecidableEq, Repr

/-- A link message of twelve bytes (11 Table 11-5). -/
structure LinkMsg where
  kind : Byte
  sender : Byte
  tag : Byte
  flags : Byte
  value : BitVec 24
  dur : Word
  zero : Byte
  check : Word
deriving DecidableEq, Repr

/-- The fields of a good link message whose kind the command names; the check follows from them. -/
structure LinkFields where
  sender : Byte
  tag : Byte
  flags : Byte
  value : BitVec 24
  dur : Word
  zero : Byte
deriving DecidableEq, Repr

/-- The panel inputs (08 section 8.4). -/
inductive PanelInput where
  | floodAlarm
  | maintEnable
  | trip (unit : UnitIx)
deriving DecidableEq, Repr

/-- The blocks that take the install of a completed RELOAD, each by its own rule (R165); R167 leaves
open in which order their notices reach the queue (log 17). -/
inductive InstallTaker where
  | adu
  | scu
  | sqe
  | clu
  | mgu
deriving DecidableEq, Repr

/-- The commands, in the order of the table. -/
inductive Instr where
  | powerOn
  | resetNAssert (short : Bool)
  | resetNRelease
  | startUpLoadComplete
  | cycleMarker (m : MarkerFields) (agesLate : Bool)
  | ringLoss
  | intervalBoundary
  | reRating
  | arrivalMaturity
  | supervisionWindowExpiry
  | engineEvaluation
  | actionListApply
  | curtailUp
  | commandSlotFrame (f : Frame)
  | position (f : FrameFields)
  | stage (f : FrameFields)
  | heartbeat (f : FrameFields)
  | noticeSlot (f : FrameFields)
  | excessFrame (f : Frame)
  | misrouted (f : FrameFields)
  | badCheckFrame (f : Frame)
  | untappedFrame (f : Frame)
  | frameOutsideCycle (f : Frame)
  | frameInLoad (f : Frame)
  | read (q : Request)
  | readNext (q : Request)
  | write (q : Request)
  | writeNext (q : Request)
  | setPointer (q : Request)
  | openEdit (q : Request)
  | check (q : Request)
  | abandon (q : Request)
  | capture (q : Request)
  | engineHold (q : CommandRequest)
  | engineRun (q : CommandRequest)
  | engineStep (q : CommandRequest)
  | engineRestart (q : CommandRequest)
  | store (q : CommandRequest)
  | storeComplete (readBackOk : Bool)
  | reload (q : CommandRequest)
  | reloadComplete (order : List InstallTaker)
  | lockRaise (q : CommandRequest)
  | lockLower (q : CommandRequest)
  | commissionLock (q : CommandRequest)
  | commissionLockComplete (readBackOk : Bool)
  | gateOut (q : CommandRequest)
  | gateIn (q : CommandRequest)
  | scheduleStart (q : CommandRequest)
  | floodDeclare (q : CommandRequest)
  | floodCancel (q : CommandRequest)
  | curtailRequest (q : CommandRequest)
  | panelInputChange (input : PanelInput) (level sampled : Bool)
  | beaconDue (p : Port)
  | linkTransmit (p : Port)
  | linkByteTimeout (p : Port) (gathered : Nat)
  | beacon (p : Port) (m : LinkFields)
  | taken (p : Port) (m : LinkFields)
  | release (m : LinkFields)
  | curtail (m : LinkFields)
  | wrongDirectionMessage (p : Port) (kind : Byte) (m : LinkFields)
  | silenceExpiry (p : Port)
  | takenTimeout (p : Port)
  | nakOpRequest (op : Byte) (q : Request)
  | badCheckMessage (p : Port) (m : LinkMsg)
  | miswiredMessage (p : Port) (m : LinkMsg)
deriving DecidableEq, Repr

end Sys2Proof
end

