-- ==== Sys2Proof/Machine/Check.lean ====
section
/-! DEFINITION. The two checks and the byte order of frames and messages (R173, R174, 11 Tables 11-1 and
11-5), the frames the part can build from fields, and the codes of the frame and message kinds. -/

namespace Sys2Proof.Machine

/-- The high and low bytes of a word, most significant first (00 section 5.4). -/
def wordBytes (w : Word) : List Byte := [w.extractLsb' 8 8, w.extractLsb' 0 8]

/-- Bytes 0 to 6 of a frame in line order (11 Table 11-1). -/
def Frame.body (f : Frame) : List Byte :=
  [f.kind ++ f.flags, f.id] ++ wordBytes f.valueA ++ wordBytes f.valueB ++ [f.tag]

/-- One shift of the ring check register (R173). -/
def ringShift (r : Byte) : Byte := if r.msb then (r <<< 1) ^^^ 0x07#8 else r <<< 1

/-- One byte taken into the ring check register (R173). -/
def ringByte (r b : Byte) : Byte := Nat.repeat ringShift 8 (r ^^^ b)

/-- R173: the ring check over bytes in line order. -/
def ringCheck (bytes : List Byte) : Byte := bytes.foldl ringByte 0xFF#8

/-- R1: a good frame is one whose check matches. -/
def Frame.good (f : Frame) : Bool := f.check == ringCheck (Frame.body f)

/-- R6: a frame with a check byte computed afresh. -/
def Frame.sealed (f : Frame) : Frame := { f with check := ringCheck (Frame.body f) }

/-- The kind codes of 11 Table 11-2. -/
abbrev kindIdle : BitVec 4 := 0
abbrev kindCycle : BitVec 4 := 1
abbrev kindSetpoint : BitVec 4 := 2
abbrev kindPosition : BitVec 4 := 3
abbrev kindStage : BitVec 4 := 4
abbrev kindHeartbeat : BitVec 4 := 5
abbrev kindMgmtReq : BitVec 4 := 6
abbrev kindMgmtReply : BitVec 4 := 7
abbrev kindNotice : BitVec 4 := 8

/-- The good frame of a kind with the given fields. -/
def goodFrame (kind : BitVec 4) (f : FrameFields) : Frame :=
  Frame.sealed ⟨kind, f.flags, f.id, f.valueA, f.valueB, f.tag, 0⟩

/-- R6: the blank IDLE frame. -/
def blankIdle : Frame := goodFrame kindIdle ⟨0, 0, 0, 0, 0⟩

/-- The good CYCLE marker with the given fields: the cycle number in values A and B (11 Table 11-2). -/
def markerFrame (m : MarkerFields) : Frame :=
  goodFrame kindCycle ⟨m.flags, m.id, m.cycle.extractLsb' 16 16, m.cycle.extractLsb' 0 16, m.tag⟩

/-- The cycle number a marker carries. -/
def Frame.cycle (f : Frame) : BitVec 32 := f.valueA ++ f.valueB

/-- R2: a cycle marker is a good frame of kind CYCLE. -/
def Frame.isMarker (f : Frame) : Bool := Frame.good f && f.kind == kindCycle

/-- The good MGMT_REQ frame with the given op code. -/
def requestFrame (op : Byte) (q : Request) : Frame :=
  goodFrame kindMgmtReq ⟨q.flags, op, q.valueA, q.valueB, q.tag⟩

/-- The good MGMT_REQ COMMAND frame with the given command code: value B carries the code in bits 15..8
and the argument in bits 7..0 (11 section 11.2). -/
def commandFrame (code : Byte) (q : CommandRequest) : Frame :=
  requestFrame 10 ⟨q.flags, q.valueA, code ++ q.arg, q.tag⟩

/-- Bytes 0 to 9 of a link message in line order (11 Table 11-5). -/
def LinkMsg.body (m : LinkMsg) : List Byte :=
  [m.kind, m.sender, m.tag, m.flags,
   m.value.extractLsb' 16 8, m.value.extractLsb' 8 8, m.value.extractLsb' 0 8] ++
  wordBytes m.dur ++ [m.zero]

/-- One shift of the link check register (R174). -/
def linkShift (r : Word) : Word := if r.msb then (r <<< 1) ^^^ 0x1021#16 else r <<< 1

/-- One byte taken into the link check register (R174). -/
def linkByte (r : Word) (b : Byte) : Word := Nat.repeat linkShift 8 (r ^^^ (b ++ 0#8))

/-- R174: the link check over bytes in line order. -/
def linkCheck (bytes : List Byte) : Word := bytes.foldl linkByte 0xFFFF#16

/-- R107: a good message is one whose check matches. -/
def LinkMsg.good (m : LinkMsg) : Bool := m.check == linkCheck (LinkMsg.body m)

/-- R105: a message with its check computed. -/
def LinkMsg.sealed (m : LinkMsg) : LinkMsg := { m with check := linkCheck (LinkMsg.body m) }

/-- The message kind codes of 11 Table 11-5. -/
abbrev msgRelease : Byte := 1
abbrev msgCurtail : Byte := 2
abbrev msgTaken : Byte := 3
abbrev msgBeacon : Byte := 4

/-- The good message of a kind with the given fields. -/
def goodMsg (kind : Byte) (m : LinkFields) : LinkMsg :=
  LinkMsg.sealed ⟨kind, m.sender, m.tag, m.flags, m.value, m.dur, m.zero, 0⟩

end Sys2Proof.Machine
end

