-- ==== Sys2Proof/WellFormed.lean ====
section
/-! DEFINITION. Which commands are what their row says, whatever the state: a BAD_CHECK_FRAME carries a
bad-check frame, a NAK_OP_REQUEST an undefined op, and so on. A command that is not well formed still has
a meaning (the part takes the frame or message as it stands); these checks say what the row is for. -/

namespace Sys2Proof

open Machine

/-- A command code of 11 Table 11-4 is 0..14. -/
def definedCommand (code : Byte) : Bool := code < 15

/-- An op code of 11 Table 11-4 is 1..10. -/
def definedOp (op : Byte) : Bool := 1 ≤ op && op ≤ 10

/-- Well-formedness of a command (each line cites the rule that says what the row carries). -/
def Instr.wellFormed : Instr → Bool
  -- R1, R3: the frame of a COMMAND slot, an excess frame and a frame outside a cycle are no markers
  | .commandSlotFrame f => !Frame.isMarker f
  | .excessFrame f => !Frame.isMarker f
  | .frameOutsideCycle f => !Frame.isMarker f
  -- R1: a bad-check frame's check does not match
  | .badCheckFrame f => !Frame.good f
  -- R13: a good frame that is neither a marker nor a SETPOINT
  | .untappedFrame f => Frame.good f && f.kind != kindCycle && f.kind != kindSetpoint
  -- R107: at least one byte and not yet twelve
  | .linkByteTimeout _ n => 0 < n && n < 12
  -- R109: a RELEASE on the down port, a CURTAIL on the up port, or an unknown kind
  | .wrongDirectionMessage p k _ =>
    (k == msgRelease && p == .down) || (k == msgCurtail && p == .up) || k == 0 || 5 ≤ k
  -- R151: an undefined op, or a COMMAND with an undefined command code
  | .nakOpRequest op q =>
    !definedOp op || (op == 10 && !definedCommand (q.valueB.extractLsb' 8 8))
  -- R107: the check does not match
  | .badCheckMessage _ m => !LinkMsg.good m
  -- R108: a good message
  | .miswiredMessage _ m => LinkMsg.good m
  -- R165: the blocks of one install, each at most once
  | .reloadComplete order => decide order.Nodup
  | .powerOn | .resetNAssert _ | .resetNRelease | .startUpLoadComplete | .cycleMarker _ _
  | .ringLoss | .intervalBoundary | .reRating | .arrivalMaturity | .supervisionWindowExpiry
  | .engineEvaluation | .actionListApply | .curtailUp | .position _ | .stage _ | .heartbeat _
  | .noticeSlot _ | .misrouted _ | .frameInLoad _ | .read _ | .readNext _ | .write _ | .writeNext _
  | .setPointer _ | .openEdit _ | .check _ | .abandon _ | .capture _ | .engineHold _ | .engineRun _
  | .engineStep _ | .engineRestart _ | .store _ | .storeComplete _ | .reload _ | .lockRaise _
  | .lockLower _ | .commissionLock _ | .commissionLockComplete _ | .gateOut _ | .gateIn _
  | .scheduleStart _ | .floodDeclare _ | .floodCancel _ | .curtailRequest _ | .beaconDue _
  | .linkTransmit _ | .beacon _ _ | .taken _ _ | .release _ | .curtail _ | .silenceExpiry _
  | .takenTimeout _ | .panelInputChange _ _ _ => true

end Sys2Proof
end

