-- ==== Sys2Proof/Decode.lean ====
section
/-! DEFINITION. The commands that a word spells by the bits of spec/opcode_table.json. The table gives no
row any bits ("fields" is empty in every row, and no row has "fixed" bits), so no word spells a command.
Frames and link messages do have bytes (chapter 11): those are operands, read in Machine/. -/

namespace Sys2Proof

/-- The command that the `nbits` bits of `w` spell: none, since no row of the table gives bits. -/
def decodeTableWord (_nbits _w : Nat) : Option Instr := none

end Sys2Proof
end

