-- ==== Sys2Proof/Machine/State.lean ====
section
/-! DEFINITION. The state of the part, block by block (00 Table 0-1), as plain data, and the machine right
after power-on. Every field is named by a rule of the spec, but for `handed`, `freeCount` and `pending`,
which are the model's own (INVENTORY.md, "State"). -/

namespace Sys2Proof.Machine

/-- Why the machine could stop with a fault: the spec names no such case, so there is no constructor. -/
inductive Fault where
deriving DecidableEq, Repr

/-- Why the machine could have no meaning for a command. -/
inductive Refusal where
  /-- Raised only by an arm of `exec` whose command has no meaning yet; no arm is such. Safe. -/
  | notModelled (mnemonic : String)
deriving DecidableEq, Repr

/-! ### The Ring Port Unit (01) -/

/-- 01 Table 1-3. -/
inductive RpuState where
  | load
  | sync
  | run
  | ringLost
deriving DecidableEq, Repr

/-- R4: the slot table taken for a cycle: the slot count S and the words of the SLOTS group. -/
structure SlotTable where
  count : Nat
  entries : List Word
deriving DecidableEq, Repr

/-- The RPU's record (R2, R3, R4, R16, R19). -/
structure Rpu where
  state : RpuState := .load
  /-- the current cycle number; absent until a marker is taken (R19) -/
  cycleNumber : Option (BitVec 32) := none
  /-- frames taken since the last marker (R3, R14); 0 before the first marker, and kept while no cycle is open: the
  model's choice, log 25 -/
  slotPos : Nat := 0
  /-- the table of the open cycle; absent while no cycle is open (R16, R19) -/
  active : Option SlotTable := none
  /-- the marker gap count in ms (R16) -/
  gap : Nat := 0
  /-- R6: the frame that leaves at ring-out for the frame last taken -/
  ringOut : Option Frame := none
deriving DecidableEq, Repr

/-! ### The Admission Unit (02, 03, 04) -/

/-- The gate states of 02 section 2.2. -/
inductive GateState where
  | vacant
  | acquire
  | service
  | stale
  | blocked
  | localControl
deriving DecidableEq, Repr

/-- R57: the last direction. -/
inductive Direction where
  | none
  | up
  | down
deriving DecidableEq, Repr

/-- R23: the drive status of a POSITION frame. -/
inductive DriveStatus where
  | ok
  | fault
  | localControl
deriving DecidableEq, Repr

/-- 04 section 4.9: the source that commands the gate. -/
inductive Owner where
  | dispatch
  | engine
  | trip
  | loss
deriving DecidableEq, Repr

/-- R74: an engine target. -/
inductive Target where
  | set (opening : Nat)
  | closeUrgent
deriving DecidableEq, Repr

/-- R68: the reason of a gate's last refusal. -/
inductive RefusalReason where
  | none
  | notService
  | tripped
  | engineOwned
deriving DecidableEq, Repr

/-- The live record of a gate (02 Table 2-2, R65, R68, R73, R74); the defaults are R21 and R83, and
VACANT before the load. -/
structure Gate where
  state : GateState := .vacant
  /-- FAULT among the block causes -/
  causeFault : Bool := false
  /-- OUT among the block causes -/
  causeOut : Bool := false
  admitted : Nat := 0
  flow : Nat := 0
  lastCycle : BitVec 32 := 0
  lastDir : Direction := .none
  measured : Option Nat := .none
  drive : Option DriveStatus := .none
  holdCount : Nat := 0
  devCount : Nat := 0
  deviating : Bool := false
  owner : Owner := .dispatch
  released : Bool := false
  target : Option Target := .none
  lastTag : Byte := 0
  refusal : RefusalReason := .none
  refused : Word := 0
deriving DecidableEq, Repr

/-- A gauge record (02 Table 2-4); the defaults are R34's. -/
structure Gauge where
  level : Option Nat := none
  age : Nat := 65535
  bad : Nat := 0
deriving DecidableEq, Repr

/-- The ADU's records (R21, R34, R39, R88). -/
structure Adu where
  gates : Vector Gate 24 := Vector.replicate 24 {}
  gauges : Vector Gauge 8 := Vector.replicate 8 {}
  tally : Nat := 0
  base : Nat := 0
deriving DecidableEq, Repr

/-! ### The Schedule Unit (05) -/

/-- R90: the schedule cursor. -/
inductive Cursor where
  | none
  | block (n : Nat) (left : Nat)
  | holdingLast
deriving DecidableEq, Repr

/-- 05 section 5.4: the limits record. -/
structure Limits where
  ceiling : Nat := 0
  floor : Nat := 0
  rampUp : Nat := 0
  rampDown : Nat := 0
  storage : Nat := 0
deriving DecidableEq, Repr

/-- 05 section 5.6. -/
inductive Mode where
  | normal
  | flood
deriving DecidableEq, Repr

/-- R60: the terms that may set a bound (U: the first four; L: the last three). -/
inductive Term where
  | ceiling
  | rampUp
  | curtail
  | floodRamp
  | floor
  | rampDown
  | inflow
deriving DecidableEq, Repr

/-- The SCU's record (05 Table 5-3). -/
structure Scu where
  intervalNumber : BitVec 32 := 0
  cycleCount : Nat := 0
  intervalLength : Nat := 0
  cursor : Cursor := .none
  limits : Limits := {}
  /-- the block the limits record latched from, or absent for DEFAULT (R93) -/
  source : Option Nat := none
  mode : Mode := .normal
  declared : Bool := false
  exitDwell : Nat := 0
  curtailCeiling : Nat := 0
  curtailLeft : Nat := 0
  upper : Nat := 0
  upperTerm : Term := .ceiling
  lower : Nat := 0
  lowerTerm : Term := .floor
deriving DecidableEq, Repr

/-! ### The Cascade Link Unit (06) -/

/-- R104: an absent port, and a present port's state. -/
inductive PortState where
  | absent
  | down
  | up
deriving DecidableEq, Repr

/-- The message kinds the CLU produces for a register (R114, R115). -/
inductive DataKind where
  | release
  | curtail
deriving DecidableEq, Repr

/-- R111: a produced message: kind, value and duration field. -/
structure Produced where
  kind : DataKind
  value : BitVec 24
  dur : Word
deriving DecidableEq, Repr

/-- Where the outstanding message stands: not yet sent, on the line, or left the port (R105, R112). -/
inductive SendPhase where
  | waiting
  | onLine
  | left
deriving DecidableEq, Repr

/-- R111: the message in a register that is AWAIT_TAKEN. -/
structure Outstanding where
  msg : Produced
  tag : Byte
  phase : SendPhase
deriving DecidableEq, Repr

/-- R116: a TAKEN reply waiting for the transmitter: the kind and the tag it acknowledges. -/
structure Reply where
  kind : Byte
  tag : Byte
deriving DecidableEq, Repr

/-- A link port (R104 to R107). -/
structure LinkPort where
  state : PortState := .absent
  silence : Nat := 0
  miswired : Bool := false
  /-- EMPTY when absent -/
  register : Option Outstanding := none
  takenCount : Nat := 0
  deferred : Option Produced := none
  tagCount : Byte := 1
  replies : List Reply := []
  /-- the message in progress on the line -/
  line : Option LinkMsg := none
  /-- ms since the last BEACON fell due (R106) -/
  beaconTimer : Nat := 0
  beaconDue : Bool := false
deriving DecidableEq, Repr

/-- An arrival entry (06 Table 6-3). -/
structure Arrival where
  received : BitVec 32
  due : BitVec 32
  discharge : Nat
  flood : Bool
  source : Word
deriving DecidableEq, Repr

/-- A known expected inflow with the flag and interval of the entry it came from (R122). -/
structure Inflow where
  discharge : Nat
  flood : Bool
  source : Word
deriving DecidableEq, Repr

/-- The CLU's record (06 Table 6-4). -/
structure Clu where
  up : LinkPort := {}
  down : LinkPort := {}
  arrivals : List Arrival := []
  /-- the expected inflow; absent while unknown (R122) -/
  inflow : Option Inflow := none
deriving DecidableEq, Repr

/-! ### The Sequence Engine (07) -/

/-- R130: the cause of an entry. -/
inductive EntryCause where
  | transition (t : Nat)
  | restart
deriving DecidableEq, Repr

/-- The SQE's live state (R127, R133). -/
structure Sqe where
  current : Nat := 0
  dwell : Nat := 0
  /-- the run status: HELD when set, else RUNNING -/
  held : Bool := false
  stepPending : Bool := false
  lastLeft : Nat := 0
  lastEntered : Nat := 0
  lastCause : EntryCause := .restart
  /-- the ownership set, in rising order -/
  owned : List GateIx := []
  seqA : Bool := false
  seqB : Bool := false
deriving DecidableEq, Repr

/-! ### The Supervision and Panel Unit (08) -/

/-- 08 Table 8-1. -/
inductive SupState where
  | absent
  | present
  | lost
deriving DecidableEq, Repr

/-- R147: one panel input: the level standing at the pin, the filtered level and the change count. -/
structure PanelLine where
  pin : Bool := false
  level : Bool := false
  count : Nat := 0
deriving DecidableEq, Repr

/-- The SPU's record (R142, R147). The inputs stand in the order FLOOD_ALARM, MAINT_ENABLE, TRIP0..TRIP5. -/
structure Spu where
  sup : SupState := .absent
  lastSeq : Option (BitVec 4) := none
  /-- the run, 0 or 1 -/
  run : Bool := false
  window : Nat := 0
  inputs : Vector PanelLine 8 := Vector.replicate 8 {}
deriving DecidableEq, Repr

/-! ### The Management Unit and the Table Store (09) -/

/-- Words by address: rising addresses, no word 0, an unlisted address reading 0 (log 21). -/
abbrev WordStore := List (Nat × Word)

/-- R155: an open edit buffer: the group and its words, at their TABLE addresses. -/
structure EditBuffer where
  group : Nat
  words : WordStore
deriving DecidableEq, Repr

/-- R159: the lock level. -/
inductive Lock where
  | open
  | limits
  | full
deriving DecidableEq, Repr

/-- R163: an operation that runs beyond its request. -/
inductive Operation where
  | store
  | reload
  | commissionLock
deriving DecidableEq, Repr

/-- The MGU's record (09 Table 9-8). -/
structure Mgu where
  tablePtr : BitVec 12 := 0
  statePtr : BitVec 12 := 0
  /-- CLOSED when absent -/
  buffer : Option EditBuffer := none
  lock : Lock := .open
  commission : Bool := false
  /-- the operation in flight -/
  op : Option Operation := none
  /-- the last result with its operation: DONE when set -/
  lastResult : Option (Operation × Bool) := none
deriving DecidableEq, Repr

/-- The nonvolatile image (R164, R166). -/
structure Image where
  words : WordStore := []
  lock : Lock := .open
  commission : Bool := false
  /-- whether the image checksum matches -/
  good : Bool := false
deriving DecidableEq, Repr

/-- The TST's record (R158, R161, R162, R166) and the RESET_N line (R149). -/
structure Tst where
  /-- the installed groups and the LINK request area -/
  table : WordStore := []
  image : Image := {}
  /-- the stored copy of the commission flag -/
  storedFlag : Bool := false
  resetAsserted : Bool := false
deriving DecidableEq, Repr

/-! ### The Notice and Counter Unit (10) -/

/-- R59: the reason of a clamp. -/
inductive ClampReason where
  | rate
  | travel
  | upper
  | lower
deriving DecidableEq, Repr

/-- R62: the payload of a CLAMP notice after its gate. -/
structure Clamp where
  reason : ClampReason
  binding : Option Term
  requested : Nat
  admitted : Nat
deriving DecidableEq, Repr

/-- R98, R99: the cause of a MODE notice. -/
inductive ModeCause where
  | alarm
  | declare
  | stage
  | dwell
deriving DecidableEq, Repr

/-- The cause of a LINK notice. -/
inductive LinkCause where
  | up
  | down
  | miswired
deriving DecidableEq, Repr

/-- 10 Table 10-1. -/
inductive Notice where
  | clamp (g : GateIx) (c : Clamp)
  | gateState (g : GateIx) (st : GateState)
  | deviation (g : GateIx)
  | mode (m : Mode) (cause : ModeCause)
  | engine (left entered : Nat) (cause : EntryCause)
  | link (p : Port) (cause : LinkCause)
  | schedule (block : Nat) (ended : Bool)
  | dispatch (regained : Bool)
  | ring (length : Nat)
  | store (op : Operation) (done : Bool)
  | image
  | lost (count : Nat)
deriving DecidableEq, Repr

/-- The station counters, in the order of 10 Table 10-2. -/
inductive Counter where
  | admitted
  | clampRate
  | clampTravel
  | clampCeiling
  | clampFloor
  | refused
  | holdFills
  | misrouted
  | badCheck
  | shortCycles
  | excessFrames
  | ringLosses
  | linkSuperseded
  | linkTimeouts
  | linkRejects
  | queueEarly
  | engineTransitions
  | heartbeatErrors
deriving DecidableEq, Repr

/-- All counters, live or captured (R171, R172). -/
structure Counters where
  station : Vector Nat 18 := Vector.replicate 18 0
  travel : Vector Nat 24 := Vector.replicate 24 0
  reversals : Vector Nat 24 := Vector.replicate 24 0
deriving DecidableEq, Repr

/-- The NCU's record (R167, R169, R171, R172). -/
structure Ncu where
  queue : List Notice := []
  lost : Nat := 0
  counters : Counters := {}
  bank : Counters := {}
deriving DecidableEq, Repr

/-! ### What one block has handed another -/

/-- An action list (R75): at most one action per gate. -/
abbrev ActionList := List (GateIx × Target)

/-- A count of the local tick, with the comparison that follows its increase: the marker gap count (R16), a port's
silence count (R110), TAKEN count (R113) and time since its last BEACON (R106), and the change count of a panel input,
which its sample raises or clears (R147). -/
inductive TickPart where
  | gap
  | silence (p : Port)
  | taken (p : Port)
  | beacon (p : Port)
  | sample (i : PanelInput)
deriving DecidableEq, Repr

/-- The model's own field: acts that a block owes after another has handed it an event (log 9), and the counts that have
already been raised for the tick in progress (log 2). -/
structure Handed where
  /-- the ADU has not yet taken the marker's increase of the gauge ages (R34, log 7) -/
  ages : Bool := false
  /-- the marker's increase brought the cycle count to the interval length (R85) -/
  boundary : Bool := false
  /-- the SPU has not yet compared the window count of this marker (R145) -/
  window : Bool := false
  /-- the SQE has not yet taken the evaluation of this marker (R128) -/
  evaluation : Bool := false
  /-- boundary events for the ADU, by their interval number (R87, R115) -/
  reRatings : List (BitVec 32) := []
  /-- boundary events for the CLU, by their interval number (R121) -/
  maturities : List (BitVec 32) := []
  /-- action lists for the ADU (R130, R75) -/
  actions : List ActionList := []
  /-- curtailment requests for the CLU: ceiling and duration (R132) -/
  curtails : List (Nat × Nat) := []
  /-- the counts a command has raised ahead of the rest of the tick in progress (log 2) -/
  ticked : List TickPart := []
deriving DecidableEq, Repr

/-! ### The whole part -/

/-- The state of the part, with the queue of commands that are waiting. -/
structure State where
  rpu : Rpu := {}
  adu : Adu := {}
  scu : Scu := {}
  clu : Clu := {}
  sqe : Sqe := {}
  spu : Spu := {}
  mgu : Mgu := {}
  tst : Tst := {}
  ncu : Ncu := {}
  handed : Handed := {}
  /-- how many free values have been drawn (Config) -/
  freeCount : Nat := 0
  /-- the commands that are waiting, first in, first out -/
  pending : List Instr := []
deriving DecidableEq, Repr

/-- The part just after power is applied (R19, R21, R34, R104, R127, R142, R153, R163, R167, R171): the
RPU is in LOAD and the start-up load is in progress. Log 3 and log 4 name the values the spec does not give. -/
def State.reset : State := {}

end Sys2Proof.Machine
end

