-- ==== Sys2Proof/Machine/Memory.lean ====
section
/-! DEFINITION. The word stores of the Table Store: the TABLE space, the image and the edit buffer are
lists of (address, word) pairs in one canonical form (log 21). -/

namespace Sys2Proof.Machine

/-- What an unlisted address reads as: 0 (R152: an unused word reads 0; 09 Table 9-7 for unused fields). -/
def unlistedWord : Word := 0

/-- One word of a store. -/
def WordStore.read : WordStore → Nat → Word
  | [], _ => unlistedWord
  | (k, w) :: rest, a => if k = a then w else WordStore.read rest a

/-- A store with one word replaced, in canonical form: writing what an unlisted address reads as removes
the entry. -/
def WordStore.write : WordStore → Nat → Word → WordStore
  | [], a, w => if w = unlistedWord then [] else [(a, w)]
  | (k, v) :: rest, a, w =>
    if k = a then (if w = unlistedWord then rest else (a, w) :: rest)
    else if a < k then (if w = unlistedWord then (k, v) :: rest else (a, w) :: (k, v) :: rest)
    else (k, v) :: WordStore.write rest a w

/-- The canonical form: addresses strictly rising, and no entry that an unlisted address would read as. -/
def WordStore.wf : WordStore → Bool
  | [] => true
  | [(_, w)] => w != unlistedWord
  | (k, w) :: (k', w') :: rest => w != unlistedWord && decide (k < k') && WordStore.wf ((k', w') :: rest)

/-- `dst` with the `len` words from `base` on replaced by those of `src`. -/
def WordStore.copyRange (src : WordStore) (base len : Nat) (dst : WordStore) : WordStore :=
  (List.range len).foldl (fun t i => WordStore.write t (base + i) (WordStore.read src (base + i))) dst

/-- A store from a list of address and word pairs. -/
def WordStore.ofList (l : List (Nat × Word)) : WordStore :=
  l.foldl (fun t p => WordStore.write t p.1 p.2) []

/-- One word as a number. -/
def WordStore.nat (t : WordStore) (a : Nat) : Nat := (WordStore.read t a).toNat

/-- A quantity of two words, its high word at the lower address (11). -/
def WordStore.long (t : WordStore) (a : Nat) : Nat :=
  WordStore.nat t a * 65536 + WordStore.nat t (a + 1)

end Sys2Proof.Machine
end

