-- ==== Sys2Proof/Machine/Groups.lean ====
section
/-! DEFINITION. Where the 77 groups lie in the TABLE space, which of their words are used, and the blank
image (R152, 11 Tables 11-6 and 11-7, 09 Table 9-7). -/

namespace Sys2Proof.Machine

/-- 11 Table 11-6: the base address of a group. -/
def groupBase (n : Nat) : Nat :=
  if n = 0 then 0x000 else if n = 1 then 0x040
  else if n < 26 then 0x080 + 16 * (n - 2)
  else if n < 42 then 0x200 + 32 * (n - 26)
  else if n = 42 then 0x400
  else if n < 75 then 0x440 + 8 * (n - 43)
  else if n = 75 then 0x540 else 0x740

/-- 11 Table 11-6: the number of words of a group. -/
def groupLen (n : Nat) : Nat :=
  if n = 0 then 64 else if n = 1 then 32
  else if n < 26 then 16 else if n < 42 then 32
  else if n = 42 then 16 else if n < 75 then 8
  else if n = 75 then 512 else 16

/-- How many groups there are (09). -/
abbrev groupCount : Nat := 77

/-- The last TABLE and the last STATE address (R152). -/
abbrev tableEnd : Nat := 0x74F
abbrev stateEnd : Nat := 0x41F

/-- The group an address lies in; absent for a gap and beyond the end (R152). -/
def groupOf (a : Nat) : Option Nat :=
  if a < 0x040 then some 0 else if a < 0x060 then some 1
  else if a < 0x080 then none
  else if a < 0x200 then some (2 + (a - 0x080) / 16)
  else if a < 0x400 then some (26 + (a - 0x200) / 32)
  else if a < 0x410 then some 42
  else if a < 0x440 then none
  else if a < 0x540 then some (43 + (a - 0x440) / 8)
  else if a < 0x740 then some 75
  else if a < 0x750 then some 76 else none

/-- 11 Table 11-7: whether a word of a group, by its offset, is used. -/
def usedOffset (n o : Nat) : Bool :=
  if n = 0 then o < 25 else if n = 1 then o < 32
  else if n < 26 then o < 11 else if n < 42 then o < 25
  else if n = 42 then o < 16 else if n < 75 then o < 7
  else if n = 75 then o < 507 else o < 5 || (13 ≤ o && o < 16)

/-- R152: a used word of a group. -/
def usedWord (a : Nat) : Bool :=
  match groupOf a with
  | some n => usedOffset n (a - groupBase n)
  | none => false

/-- The group numbers of 11 Table 11-6. -/
abbrev stationGroup : Nat := 0
abbrev slotsGroup : Nat := 1
abbrev gateGroup (k : GateIx) : Nat := 2 + k.val
abbrev curveGroup (j : Nat) : Nat := 26 + j
abbrev headGroup : Nat := 42
abbrev scheduleGroup (n : Nat) : Nat := 43 + n
abbrev engineGroup : Nat := 75
abbrev linkGroup : Nat := 76

/-- R162: the request area of the LINK group: ceiling (two words) and duration. -/
abbrev reqCeilingHigh : Nat := 0x74D
abbrev reqCeilingLow : Nat := 0x74E
abbrev reqDuration : Nat := 0x74F

/-- R162: a word of the request area. -/
def inRequestArea (a : Nat) : Bool := reqCeilingHigh ≤ a && a ≤ reqDuration

/-- How many words of a group an install replaces: the LINK request area is not among them (R162). -/
def installLen (n : Nat) : Nat := if n = linkGroup then 13 else groupLen n

/-- R158: `table` with group `n` replaced by the words in `words`. -/
def installGroup (n : Nat) (words table : WordStore) : WordStore :=
  WordStore.copyRange words (groupBase n) (installLen n) table

/-- R155: the words of group `n`, as OPEN_EDIT copies them. -/
def copyGroup (n : Nat) (table : WordStore) : WordStore :=
  table.filter (fun p => decide (groupBase n ≤ p.1) && decide (p.1 < groupBase n + groupLen n))

/-- R162, R164: the words a STORE copies: the groups without the request area, which is the last of the
TABLE space. -/
def storedWords (table : WordStore) : WordStore :=
  table.filter (fun p => decide (p.1 < reqCeilingHigh))

/-- R158, R162, R165: `table` with every group replaced by those of `words`, the request area kept. -/
def installAll (words table : WordStore) : WordStore :=
  storedWords words ++ table.filter (fun p => inRequestArea p.1)

/-- 09 Table 9-7: the SCHEDULE groups of the blank image: duration 1, next END. -/
def blankSchedules : WordStore :=
  (List.range 32).flatMap (fun n => [(0x440 + 8 * n, 1), (0x440 + 8 * n + 6, 0xFFFF)])

/-- 09 Table 9-7: the words of the blank image that are not 0. -/
def blankWords : WordStore :=
  [(0x000, 1), (0x001, 6000), (0x002, 50), (0x003, 100), (0x006, 1), (0x007, 100), (0x009, 0xFFFF),
   (0x014, 65535), (0x016, 1), (0x401, 4096)] ++ blankSchedules ++
  [(0x540, 1), (0x58D, 0xFFFF), (0x743, 1000), (0x744, 200)]

end Sys2Proof.Machine
end

