-- ==== Sys2Proof/Machine/Operands.lean ====
section
/-! DEFINITION. The fields of the installed groups, read from the table's words where a block uses them
(R20, R89, R124; 11 Table 11-7). A word that validation would have refused is read as it stands; log 19
says what each reading makes of it. -/

namespace Sys2Proof.Machine

/-! ### STATION (group 0) -/

def slotCount (t : WordStore) : Nat := WordStore.nat t 0x000
def cyclesPerInterval (t : WordStore) : Nat := WordStore.nat t 0x001
def ringLossLimit (t : WordStore) : Nat := WordStore.nat t 0x002
def supervisionWindow (t : WordStore) : Nat := WordStore.nat t 0x003
def stationIndex (t : WordStore) : Nat := WordStore.nat t 0x004
def headwaterGauge (t : WordStore) : Nat := WordStore.nat t 0x005
def tailwaterGauge (t : WordStore) : Nat := WordStore.nat t 0x006
def staleLimit (t : WordStore) : Nat := WordStore.nat t 0x007
def fallbackHead (t : WordStore) : Nat := WordStore.nat t 0x008
/-- R90: the start block, absent for NONE. -/
def startBlock (t : WordStore) : Option Nat :=
  if WordStore.nat t 0x009 < 32 then some (WordStore.nat t 0x009) else none
def floodStage (t : WordStore) : Nat := WordStore.nat t 0x014
def hysteresis (t : WordStore) : Nat := WordStore.nat t 0x015
def exitDwellLimit (t : WordStore) : Nat := WordStore.nat t 0x016
def floodRampUp (t : WordStore) : Nat := WordStore.long t 0x017

/-- R93: the default limits. -/
def defaultLimits (t : WordStore) : Limits :=
  { ceiling := WordStore.long t 0x00A, floor := WordStore.long t 0x00C,
    rampUp := WordStore.long t 0x00E, rampDown := WordStore.long t 0x010,
    storage := WordStore.long t 0x012 }

/-! ### SLOTS (group 1) -/

/-- R4: the slot table a marker takes. -/
def installedSlots (t : WordStore) : SlotTable :=
  { count := slotCount t, entries := (List.range 32).map (fun e => WordStore.read t (0x040 + e)) }

/-- The slot roles of 01 Table 1-1. -/
inductive Role where
  | unused
  | command
  | telemetry
  | management
  | notice
  | heartbeat
deriving DecidableEq, Repr

/-- 11 Table 11-7: the role of a slot entry, bits 15..8 (an undefined code, which CHECK refuses, is read as
UNUSED, log 19). -/
def entryRole (e : Word) : Role :=
  match (e.extractLsb' 8 8).toNat with
  | 1 => .command
  | 2 => .telemetry
  | 3 => .management
  | 4 => .notice
  | 5 => .heartbeat
  | _ => .unused

/-- 11 Table 11-7: the binding of a slot entry, bits 7..0. -/
def entryBinding (e : Word) : Nat := (e.extractLsb' 0 8).toNat

/-- The gate a binding names. -/
def boundGate (e : Word) : Option GateIx :=
  if h : entryBinding e < 24 then some ⟨entryBinding e, h⟩ else none

/-! ### GATE groups -/

/-- The gate kinds of 02 Table 2-1. -/
inductive GateKind where
  | absent
  | wicket
  | spillway
  | outlet
deriving DecidableEq, Repr

/-- A word of gate `k`'s group. -/
def gateWord (t : WordStore) (k : GateIx) (o : Nat) : Nat := WordStore.nat t (0x080 + 16 * k.val + o)

/-- The kind (an undefined code, which CHECK refuses, is read as ABSENT, log 19). -/
def gateKind (t : WordStore) (k : GateIx) : GateKind :=
  match gateWord t k 0 with
  | 1 => .wicket
  | 2 => .spillway
  | 3 => .outlet
  | _ => .absent

def gateUnit (t : WordStore) (k : GateIx) : Nat := gateWord t k 1
def travelMin (t : WordStore) (k : GateIx) : Nat := gateWord t k 2
def travelMax (t : WordStore) (k : GateIx) : Nat := gateWord t k 3
def gateRate (t : WordStore) (k : GateIx) : Nat := gateWord t k 4
def gateCurve (t : WordStore) (k : GateIx) : Nat := gateWord t k 5
def holdLimit (t : WordStore) (k : GateIx) : Nat := gateWord t k 6
/-- The loss action is DRIVE_TO (code 1). -/
def driveTo (t : WordStore) (k : GateIx) : Bool := gateWord t k 7 == 1
def safeOpening (t : WordStore) (k : GateIx) : Nat := gateWord t k 8
def devLimit (t : WordStore) (k : GateIx) : Nat := gateWord t k 9
def devTime (t : WordStore) (k : GateIx) : Nat := gateWord t k 10

/-! ### CURVE and HEADTABLE groups -/

/-- The points of a curve: opening and flow, at most twelve. -/
def curvePoints (t : WordStore) (j : Nat) : List (Nat × Nat) :=
  let base := groupBase (curveGroup j)
  (List.range (min 12 (WordStore.nat t base))).map
    (fun p => (WordStore.nat t (base + 1 + 2 * p), WordStore.nat t (base + 2 + 2 * p)))

/-- R37: the points of the head-factor table: those before the first whose factor word is 0. -/
def headPoints (t : WordStore) : List (Nat × Nat) :=
  ((List.range 8).map (fun p => (WordStore.nat t (0x400 + 2 * p), WordStore.nat t (0x401 + 2 * p)))).takeWhile
    (fun p => p.2 != 0)

/-! ### SCHEDULE groups -/

def blockWord (t : WordStore) (n o : Nat) : Nat := WordStore.nat t (0x440 + 8 * n + o)
def blockDuration (t : WordStore) (n : Nat) : Nat := blockWord t n 0

/-- R93: the limits of block `n`. -/
def blockLimits (t : WordStore) (n : Nat) : Limits :=
  { ceiling := blockWord t n 1, floor := blockWord t n 2, rampUp := blockWord t n 3,
    rampDown := blockWord t n 4, storage := blockWord t n 5 }

/-- R91: the block that follows block `n`, absent for END. -/
def blockNext (t : WordStore) (n : Nat) : Option Nat :=
  if blockWord t n 6 < 32 then some (blockWord t n 6) else none

/-! ### ENGINE -/

def engineWord (t : WordStore) (o : Nat) : Nat := WordStore.nat t (0x540 + o)
def stateCount (t : WordStore) : Nat := engineWord t 0
def initialState (t : WordStore) : Nat := engineWord t 1
def transitionCount (t : WordStore) : Nat := engineWord t 2

/-- A word of engine state `s`. -/
def stateWordOf (t : WordStore) (s o : Nat) : Nat := engineWord t (75 + 54 * s + o)

def minDwell (t : WordStore) (s : Nat) : Nat := stateWordOf t s 0
def levelA (t : WordStore) (s : Nat) : Bool := (stateWordOf t s 1).testBit 0
def levelB (t : WordStore) (s : Nat) : Bool := (stateWordOf t s 1).testBit 1

/-- R132: the CURTAIL_UP of state `s`: ceiling and duration; absent when the duration word is 0xFFFF. -/
def curtailUpOf (t : WordStore) (s : Nat) : Option (Nat × Nat) :=
  if stateWordOf t s 2 = 0xFFFF then none
  else some (stateWordOf t s 3 * 65536 + stateWordOf t s 4, stateWordOf t s 2)

/-- 11 Table 11-7: the action list of state `s`. -/
def actionList (t : WordStore) (s : Nat) : ActionList :=
  (List.range (min 24 (stateWordOf t s 5))).filterMap (fun a =>
    let g := stateWordOf t s (6 + 2 * a)
    let o := stateWordOf t s (7 + 2 * a)
    if h : g < 24 then some (⟨g, h⟩, if o = 0xFFFF then .closeUrgent else .set o) else none)

/-- The action an action list gives a gate. -/
def ActionList.find (l : ActionList) (g : GateIx) : Option Target :=
  (List.find? (fun p => p.1 == g) l).map Prod.snd

/-- The transition conditions of 07 Table 7-2, by their codes. -/
inductive Condition where
  | trip
  | noTrip
  | flood
  | normal
  | gaugeAbove
  | gaugeBelow
  | dispatchLost
  | dispatchPresent
  | linkDown
  | dwell
  | always
deriving DecidableEq, Repr

/-- 11: the condition codes; a code above 10, which CHECK refuses, names no condition. -/
def conditionOf (code : Nat) : Option Condition :=
  match code with
  | 0 => some .trip
  | 1 => some .noTrip
  | 2 => some .flood
  | 3 => some .normal
  | 4 => some .gaugeAbove
  | 5 => some .gaugeBelow
  | 6 => some .dispatchLost
  | 7 => some .dispatchPresent
  | 8 => some .linkDown
  | 9 => some .dwell
  | 10 => some .always
  | _ => none

/-- One transition of the engine table (07 Table 7-1). -/
structure Transition where
  src : Nat
  dst : Nat
  cond : Option Condition
  index : Nat
  value : Nat
deriving DecidableEq, Repr

/-- 11 Table 11-7: transition `n`, of three words. -/
def transitionAt (t : WordStore) (n : Nat) : Transition :=
  let w0 := engineWord t (3 + 3 * n)
  let w1 := engineWord t (4 + 3 * n)
  { src := w0 / 256, dst := w0 % 256, cond := conditionOf (w1 / 256), index := w1 % 256,
    value := engineWord t (5 + 3 * n) }

/-! ### LINK -/

/-- The present flag of a port (06 Table 6-1). -/
def portFitted (t : WordStore) : Port → Bool
  | .up => WordStore.nat t 0x740 == 1
  | .down => WordStore.nat t 0x741 == 1

def linkLag (t : WordStore) : Nat := WordStore.nat t 0x742
def silenceLimit (t : WordStore) : Nat := WordStore.nat t 0x743
def takenTimeoutLimit (t : WordStore) : Nat := WordStore.nat t 0x744

/-- R162: the request area: the curtailment ceiling and the duration. -/
def requestCeiling (t : WordStore) : Nat := WordStore.long t reqCeilingHigh
def requestDuration (t : WordStore) : Nat := WordStore.nat t reqDuration

/-- R108: the sender a port expects; absent on the up port of station 0 and the down port of station 7. -/
def expectedSender (t : WordStore) : Port → Option Nat
  | .up => if stationIndex t = 0 then none else some (stationIndex t - 1)
  | .down => if 7 ≤ stationIndex t then none else some (stationIndex t + 1)

end Sys2Proof.Machine
end

