-- ==== Sys2Proof/Machine/Ops.lean ====
section
/-! DEFINITION. The named operations over the state that the blocks share: access to gates, gauges, ports
and panel lines, saturating counts, the station counters, the notice queue (10). -/

namespace Sys2Proof.Machine

/-- 00 section 5.3: a count that stops at its maximum. -/
def satAdd (cap n d : Nat) : Nat := min cap (n + d)

/-- 00 section 5.3: clamp(x, lo, hi). -/
def clampTo (x lo hi : Nat) : Nat := min (max x lo) hi

/-- |x - y|. -/
def distance (x y : Nat) : Nat := (x - y) + (y - x)

/-- The gate numbers in rising order. -/
def allGates : List GateIx := List.finRange 24

/-- A vector with every element changed by its index. -/
def mapVec {α : Type} {n : Nat} (f : Fin n → α → α) (v : Vector α n) : Vector α n :=
  ⟨((List.finRange n).map (fun i => f i v[i])).toArray, by simp⟩

/-! ### Gates and gauges -/

/-- The live record of gate `g`. -/
def State.gate (s : State) (g : GateIx) : Gate := s.adu.gates[g]

/-- The state with gate `g`'s record replaced. -/
def State.setGate (s : State) (g : GateIx) (r : Gate) : State :=
  { s with adu := { s.adu with gates := s.adu.gates.set g r } }

/-- The state with every gate's record changed. -/
def State.mapGates (s : State) (f : GateIx → Gate → Gate) : State :=
  { s with adu := { s.adu with gates := mapVec f s.adu.gates } }

/-- The state with another discharge tally. -/
def State.setTally (s : State) (n : Nat) : State := { s with adu := { s.adu with tally := n } }

/-- The gauge record of number `n`, 0..7. -/
def State.gauge (s : State) (n : Nat) : Gauge := if h : n < 8 then s.adu.gauges[n] else {}

/-- The state with gauge `g`'s record replaced. -/
def State.setGauge (s : State) (g : GaugeIx) (r : Gauge) : State :=
  { s with adu := { s.adu with gauges := s.adu.gauges.set g r } }

/-- 02 section 2.2: a counted gate's recorded flow is part of the tally. -/
def GateState.counted : GateState → Bool
  | .service | .stale | .blocked | .localControl => true
  | .vacant | .acquire => false

/-- R2, R22: the number of the marker that opened the cycle. -/
def State.cycle (s : State) : BitVec 32 := s.rpu.cycleNumber.getD 0

/-- The installed groups. -/
abbrev State.table (s : State) : WordStore := s.tst.table

/-! ### Ports and panel lines -/

/-- The record of a link port. -/
def State.port (s : State) : Port → LinkPort
  | .up => s.clu.up
  | .down => s.clu.down

/-- The state with a link port's record replaced. -/
def State.setPort (s : State) (p : Port) (r : LinkPort) : State :=
  match p with
  | .up => { s with clu := { s.clu with up := r } }
  | .down => { s with clu := { s.clu with down := r } }

/-- Where a panel input stands among the eight (11 Table 11-8, word 4 of 0x320). -/
def PanelInput.ix : PanelInput → Fin 8
  | .floodAlarm => 0
  | .maintEnable => 1
  | .trip u => ⟨u.val + 2, by omega⟩

/-- The record of a panel input. -/
def State.panel (s : State) (i : PanelInput) : PanelLine := s.spu.inputs[PanelInput.ix i]

/-- The state with a panel input's record replaced. -/
def State.setPanel (s : State) (i : PanelInput) (r : PanelLine) : State :=
  { s with spu := { s.spu with inputs := s.spu.inputs.set (PanelInput.ix i) r } }

/-- R147, R148: the filtered level as the other blocks read it: inactive until the first reading. -/
def State.inputActive (s : State) (i : PanelInput) : Bool :=
  s.rpu.state != .load && (State.panel s i).level

/-- The panel inputs in the order of 08 Table 8-2. -/
def allInputs : List PanelInput :=
  [.floodAlarm, .maintEnable, .trip 0, .trip 1, .trip 2, .trip 3, .trip 4, .trip 5]

/-! ### Counters (R171) -/

/-- Where a counter stands among the eighteen. -/
def Counter.ix : Counter → Fin 18
  | .admitted => 0
  | .clampRate => 1
  | .clampTravel => 2
  | .clampCeiling => 3
  | .clampFloor => 4
  | .refused => 5
  | .holdFills => 6
  | .misrouted => 7
  | .badCheck => 8
  | .shortCycles => 9
  | .excessFrames => 10
  | .ringLosses => 11
  | .linkSuperseded => 12
  | .linkTimeouts => 13
  | .linkRejects => 14
  | .queueEarly => 15
  | .engineTransitions => 16
  | .heartbeatErrors => 17

/-- The live value of a station counter. -/
def State.counter (s : State) (c : Counter) : Nat := s.ncu.counters.station[Counter.ix c]

/-- R171: the state with the live counters replaced. -/
def State.setCounters (s : State) (c : Counters) : State :=
  { s with ncu := { s.ncu with counters := c } }

/-- R171: one increase of a station counter, saturating at 65535. -/
def State.count (s : State) (c : Counter) : State :=
  State.setCounters s { s.ncu.counters with
    station := s.ncu.counters.station.set (Counter.ix c) (satAdd 65535 (State.counter s c) 1) }

/-- A counter increased when a condition holds. -/
def State.countIf (s : State) (b : Bool) (c : Counter) : State := if b then State.count s c else s

/-- R58, R71: a gate's travel total increased, saturating at 4,294,967,295. -/
def State.addTravel (s : State) (g : GateIx) (d : Nat) : State :=
  State.setCounters s { s.ncu.counters with
    travel := s.ncu.counters.travel.set g (satAdd 4294967295 s.ncu.counters.travel[g] d) }

/-- R57: a gate's reversal count increased when a condition holds, saturating at 65535. -/
def State.addReversal (s : State) (g : GateIx) (b : Bool) : State :=
  if b then State.setCounters s { s.ncu.counters with
    reversals := s.ncu.counters.reversals.set g (satAdd 65535 s.ncu.counters.reversals[g] 1) }
  else s

/-! ### The notice queue (R167 to R170) -/

/-- R167: how many entries the notice queue holds at most. -/
abbrev noticeCapacity : Nat := 16

/-- A CLAMP notice of gate `g`. -/
def Notice.isClampOf (g : GateIx) : Notice → Bool
  | .clamp k _ => k == g
  | _ => false

/-- R168: the queue with the payload of gate `g`'s CLAMP entry replaced in place. -/
def replaceClamp (g : GateIx) (c : Clamp) : List Notice → List Notice
  | [] => []
  | n :: rest => if Notice.isClampOf g n then .clamp g c :: rest else n :: replaceClamp g c rest

/-- R167, R169: a notice that joins the tail, or is discarded and counted as lost. -/
def Ncu.append (u : Ncu) (n : Notice) : Ncu :=
  if u.queue.length < noticeCapacity then { u with queue := u.queue ++ [n] }
  else { u with lost := satAdd 255 u.lost 1 }

/-- R167 to R169: a notice handed to the NCU. -/
def Ncu.notify (u : Ncu) (n : Notice) : Ncu :=
  match n with
  | .clamp g c =>
    if u.queue.any (Notice.isClampOf g) then { u with queue := replaceClamp g c u.queue }
    else Ncu.append u n
  | _ => Ncu.append u n

/-- A notice handed to the NCU. -/
def State.notify (s : State) (n : Notice) : State := { s with ncu := Ncu.notify s.ncu n }

/-- R169, R170: the NCU after the head entry has left: the freed place takes a LOST notice when any were
discarded. -/
def Ncu.emit (u : Ncu) : Ncu :=
  match u.queue with
  | [] => u
  | _ :: rest =>
    if 0 < u.lost then { u with queue := rest ++ [.lost u.lost], lost := 0 }
    else { u with queue := rest }

/-! ### Ownership (R131) -/

/-- R75, R131: the ADU reports the set of engine-owned gates to the SQE. -/
def State.reportOwnership (s : State) : State :=
  { s with sqe := { s.sqe with owned := allGates.filter (fun g => (State.gate s g).owner == .engine) } }

end Sys2Proof.Machine
end

