-- ==== Sys2Proof/Machine/Rating.lean ====
section
/-! DEFINITION. Gauges, head, and rating: curve interpolation, head factor, Flow, Up and Down (02 sections
2.3 and 2.4), and the adjustments of the discharge tally (R39). -/

namespace Sys2Proof.Machine

/-- R34: a gauge is fresh when it has a level younger than the installed stale limit. -/
def gaugeFresh (t : WordStore) (g : Gauge) : Bool := g.level.isSome && decide (g.age < staleLimit t)

/-- The level of a gauge, when it is fresh (R34). -/
def State.freshLevel (s : State) (n : Nat) : Option Nat :=
  if gaugeFresh s.table (State.gauge s n) then (State.gauge s n).level else none

/-- R35: the head: headwater less tailwater, not below 0, or the fallback head when either is stale. -/
def State.head (s : State) : Nat :=
  match State.freshLevel s (headwaterGauge s.table), State.freshLevel s (tailwaterGauge s.table) with
  | some hw, some tw => hw - tw
  | _, _ => fallbackHead s.table

/-- R36: the interpolated flow of a curve at an opening. -/
def interp : List (Nat × Nat) → Nat → Nat
  | [], _ => 0
  | [(_, q)], _ => q
  | (o0, q0) :: (o1, q1) :: rest, o =>
    if o < o1 then q0 + (o - o0) * (q1 - q0) / (o1 - o0) else interp ((o1, q1) :: rest) o

/-- R37: the head factor of a table at a head. -/
def headFactor : List (Nat × Nat) → Nat → Nat
  | [], _ => 0
  | [(_, f)], _ => f
  | (h0, f0) :: (h1, f1) :: rest, h =>
    if h < h1 then f0 + (h - h0) * (f1 - f0) / (h1 - h0) else headFactor ((h1, f1) :: rest) h

/-- R38: the rated flow for a curve and a head factor. -/
def ratedFlow (curve : List (Nat × Nat)) (factor o : Nat) : Nat :=
  min 65535 (interp curve o * factor / 4096)

/-- R38: Flow(o, h) of gate `g` with the installed curve and head table. -/
def flowAt (t : WordStore) (g : GateIx) (h o : Nat) : Nat :=
  ratedFlow (curvePoints t (gateCurve t g)) (headFactor (headPoints t) h) o

/-- The search of Up: the largest opening of a..a+n that does not pass the target, else a. -/
def upSearch (f : Nat → Nat) (target : Int) (a : Nat) : Nat → Nat
  | 0 => a
  | n + 1 => if (f (a + (n + 1)) : Int) ≤ target then a + (n + 1) else upSearch f target a n

/-- R38: Up(T, a, b). -/
def upTo (f : Nat → Nat) (target : Int) (a b : Nat) : Nat := upSearch f target a (b - a)

/-- The search of Down: the smallest opening of b-n..b that reaches the target, else b. -/
def downSearch (f : Nat → Nat) (target : Int) (b : Nat) : Nat → Nat
  | 0 => b
  | n + 1 => if target ≤ (f (b - (n + 1)) : Int) then b - (n + 1) else downSearch f target b n

/-- R38: Down(T, a, b). -/
def downTo (f : Nat → Nat) (target : Int) (a b : Nat) : Nat := downSearch f target b (b - a)

/-- R39: the tally when a counted gate's recorded flow changes. -/
def tallyChange (tally old new : Nat) : Nat := tally + new - old

/-- R39: the tally when a gate's recorded flow leaves it, if the gate was counted. -/
def tallyLeave (tally : Nat) (r : Gate) : Nat := if GateState.counted r.state then tally - r.flow else tally

/-- R22: re-tracking gate `g` to an opening, from the record it has before its state changes: the
admitted opening, the recorded flow, the last admission cycle and the last direction, and the tally. -/
def State.retrack (s : State) (g : GateIx) (opening : Nat) : State :=
  let r := State.gate s g
  let q := flowAt s.table g (State.head s) opening
  let tally := if GateState.counted r.state then tallyChange s.adu.tally r.flow q else s.adu.tally + q
  State.setTally
    (State.setGate s g { r with admitted := opening, flow := q, lastCycle := State.cycle s, lastDir := .none })
    tally

/-- R35, R87: every counted gate's flow at the current head, and the tally and base that follow. -/
def State.reRate (s : State) : State :=
  let h := State.head s
  let s := State.mapGates s (fun g r =>
    if GateState.counted r.state then { r with flow := flowAt s.table g h r.admitted } else r)
  let total := (allGates.map (fun g =>
    if GateState.counted (State.gate s g).state then (State.gate s g).flow else 0)).sum
  { s with adu := { s.adu with tally := total, base := total } }

end Sys2Proof.Machine
end

