-- ==== Sys2Proof/Machine/Schedule.lean ====
section
/-! DEFINITION. The Schedule Unit (05): the bounds, the limits latch, the cursor, the station mode, the
curtailment record and the boundary. -/

namespace Sys2Proof.Machine

/-- 00 Table 0-5: the largest station limit; R96: a bound above it is held at it. -/
abbrev limitMax : Nat := 16777215

/-- The smallest of a list of terms, the first of them where several tie (R94). -/
def smallest (x : Nat × Term) (l : List (Nat × Term)) : Nat × Term :=
  l.foldl (fun best y => if y.1 < best.1 then y else best) x

/-- The largest of a list of terms, the first of them where several tie (R94, R95). -/
def largest (x : Nat × Term) (l : List (Nat × Term)) : Nat × Term :=
  l.foldl (fun best y => if best.1 < y.1 then y else best) x

/-- R94, R95: the upper bound and its binding term. -/
def upperBound (t : WordStore) (c : Scu) (base : Nat) : Nat × Term :=
  match c.mode with
  | .normal => smallest (c.limits.ceiling, .ceiling)
      ((if 0 < c.curtailLeft then [(c.curtailCeiling, .curtail)] else []) ++ [(base + c.limits.rampUp, .rampUp)])
  | .flood => (base + floodRampUp t, .floodRamp)

/-- R94, R95: the lower bound and its binding term. -/
def lowerBound (c : Scu) (base : Nat) (inflow : Option Inflow) : Nat × Term :=
  match c.mode with
  | .normal => largest (c.limits.floor, .floor) [(base - c.limits.rampDown, .rampDown)]
  | .flood => largest (c.limits.floor, .floor)
      ((match inflow with
        | some i => [(i.discharge - c.limits.storage, .inflow)]
        | none => []) ++ [(base - c.limits.rampDown, .rampDown)])

/-- R96: the SCU's record with U, L and their terms recomputed. -/
def Scu.withBounds (c : Scu) (t : WordStore) (base : Nat) (inflow : Option Inflow) : Scu :=
  let u := upperBound t c base
  let l := lowerBound c base inflow
  { c with upper := min limitMax u.1, upperTerm := u.2, lower := min limitMax l.1, lowerTerm := l.2 }

/-- R96: U and L recomputed from their inputs as they stand. -/
def State.recomputeBounds (s : State) : State :=
  { s with scu := Scu.withBounds s.scu s.table s.adu.base s.clu.inflow }

/-- R93: the limits record latched from the cursor's position. -/
def Scu.latch (c : Scu) (t : WordStore) : Scu :=
  match c.cursor with
  | .none => { c with limits := defaultLimits t, source := none }
  | .block n _ => { c with limits := blockLimits t n, source := some n }
  | .holdingLast => c

/-- R91: the cursor after a boundary, and the notice it queues. -/
def stepCursor (t : WordStore) : Cursor → Cursor × Option Notice
  | .none => (.none, none)
  | .holdingLast => (.holdingLast, none)
  | .block n left =>
    if 0 < left - 1 then (.block n (left - 1), none)
    else
      match blockNext t n with
      | some m => (.block m (blockDuration t m), some (.schedule m false))
      | none => (.holdingLast, some (.schedule n true))

/-- A notice queued when there is one. -/
def State.notifyOpt (s : State) (n : Option Notice) : State :=
  match n with
  | some x => State.notify s x
  | none => s

/-- R98: the parts of the entry condition, with the cause each names, the first that holds deciding. -/
def State.floodCause (s : State) : Option ModeCause :=
  if State.inputActive s .floodAlarm then some .alarm
  else if s.scu.declared then some .declare
  else
    match State.freshLevel s (headwaterGauge s.table) with
    | some level => if floodStage s.table ≤ level then some .stage else none
    | none => none

/-- R98: the entry test: in NORMAL the station enters FLOOD, in FLOOD the exit dwell count restarts. Staleness is read
as it stands, after a STATION install by the new stale limit (log 34). -/
def State.floodTest (s : State) : State :=
  match State.floodCause s with
  | none => s
  | some cause =>
    match s.scu.mode with
    | .flood => { s with scu := { s.scu with exitDwell := 0 } }
    | .normal =>
      State.recomputeBounds
        (State.notify { s with scu := { s.scu with mode := .flood, exitDwell := 0 } } (.mode .flood cause))

/-- R99: the exit condition. -/
def State.exitHolds (s : State) : Bool :=
  !State.inputActive s .floodAlarm && !s.scu.declared &&
    (match State.freshLevel s (headwaterGauge s.table) with
     | some level => decide (level + hysteresis s.table ≤ floodStage s.table)
     | none => false)

/-- R99: the exit test of a boundary taken in FLOOD. -/
def State.floodExit (s : State) : State :=
  match s.scu.mode with
  | .normal => s
  | .flood =>
    if State.exitHolds s then
      let n := satAdd 255 s.scu.exitDwell 1
      if exitDwellLimit s.table ≤ n then
        State.notify { s with scu := { s.scu with mode := .normal, exitDwell := 0 } } (.mode .normal .dwell)
      else { s with scu := { s.scu with exitDwell := n } }
    else { s with scu := { s.scu with exitDwell := 0 } }

/-- R101: a received curtailment; a duration above 255 is taken as 255. -/
def State.setCurtail (s : State) (ceiling duration : Nat) : State :=
  State.recomputeBounds
    (if duration = 0 then { s with scu := { s.scu with curtailLeft := 0 } }
     else { s with scu := { s.scu with curtailCeiling := ceiling, curtailLeft := min 255 duration } })

/-- R85, step 1 of R86: the interval clock at a boundary. -/
def Scu.nextInterval (c : Scu) (t : WordStore) : Scu :=
  { c with intervalNumber := c.intervalNumber + 1, cycleCount := 0, intervalLength := cyclesPerInterval t }

/-- R86: the SCU's steps at a boundary, in their order, as one act, ending with the boundary event handed
to the ADU and the CLU. The exit test comes before the hand-over, so the RELEASE of a boundary that leaves FLOOD is
produced in NORMAL, although R115 lets it start before the mode change: R86 is followed (log 31). -/
def State.boundary (s : State) : State :=
  let c := Scu.nextInterval s.scu s.table
  let c := { c with curtailLeft := c.curtailLeft - 1 }
  let step := stepCursor s.table c.cursor
  let c := Scu.latch { c with cursor := step.1 } s.table
  let s := State.notifyOpt { s with scu := c } step.2
  let s := State.recomputeBounds (State.floodExit s)
  { s with handed := { s.handed with
      boundary := false,
      reRatings := s.handed.reRatings ++ [s.scu.intervalNumber],
      maturities := s.handed.maturities ++ [s.scu.intervalNumber] } }

/-- R92: the effect of an accepted SCHEDULE_START on block `n`. -/
def State.startSchedule (s : State) (n : Nat) : State :=
  let c := Scu.latch { s.scu with cursor := .block n (blockDuration s.table n) } s.table
  State.notify (State.recomputeBounds { s with scu := c }) (.schedule n false)

/-- R97: an accepted FLOOD_DECLARE. -/
def State.declareFlood (s : State) : State :=
  State.floodTest { s with scu := { s.scu with declared := true } }

/-- R97: an accepted FLOOD_CANCEL. -/
def State.cancelFlood (s : State) : State := { s with scu := { s.scu with declared := false } }

/-- R90, R93, R96, R100: the SCU at the end of the start-up load. -/
def State.startScu (s : State) : State :=
  let t := s.table
  let cursor := match startBlock t with
    | some n => Cursor.block n (blockDuration t n)
    | none => Cursor.none
  let c : Scu := { intervalLength := cyclesPerInterval t, cursor := cursor }
  State.recomputeBounds { s with scu := Scu.latch c t }

end Sys2Proof.Machine
end

