-- ==== Sys2Proof/Machine/Links.lean ====
section
/-! DEFINITION. The Cascade Link Unit (06): production, transmission and receipt of messages, the port
states, the arrival queue and the expected inflow. -/

namespace Sys2Proof.Machine

/-! ### The outbound register (06 section 6.3) -/

/-- R111: the tag count after the one given: from 255 to 1. -/
def nextTag (t : Byte) : Byte := if t = 255 then 1 else t + 1

/-- R111: a message enters the register with the tag count as its tag. The TAKEN count, which has no value until the
message has left, stands at 0 (log 32). -/
def LinkPort.enter (r : LinkPort) (m : Produced) : LinkPort :=
  { r with register := some ⟨m, r.tagCount, .waiting⟩, tagCount := nextTag r.tagCount, takenCount := 0 }

/-- R112, R113: the register emptied, and the deferred message, if any, moved into it with a fresh tag. The TAKEN count
stops, and stands at 0 (log 32). -/
def LinkPort.promote (r : LinkPort) : LinkPort :=
  match r.deferred with
  | some m => LinkPort.enter { r with deferred := none } m
  | none => { r with register := none, takenCount := 0 }

/-- R111: a message produced for a port. -/
def State.produce (s : State) (p : Port) (m : Produced) : State :=
  let r := State.port s p
  match r.state, r.register, r.deferred with
  | .up, none, _ => State.setPort s p (LinkPort.enter r m)
  | .up, some _, none => State.setPort s p { r with deferred := some m }
  | .up, some _, some _ => State.count (State.setPort s p { r with deferred := some m }) .linkSuperseded
  | _, _, _ => State.count s .linkTimeouts

/-- R114: a CURTAIL produced for the up port: ceiling and duration are held at their largest values. -/
def State.produceCurtail (s : State) (ceiling duration : Nat) : State :=
  State.produce s .up
    ⟨.curtail, BitVec.ofNat 24 (min limitMax ceiling), BitVec.ofNat 16 (min 255 duration)⟩

/-- R115: a RELEASE produced for the down port, if the port is present: the base, and the low 16 bits of
the number of the boundary's interval. -/
def State.produceRelease (s : State) (n : BitVec 32) : State :=
  match (State.port s .down).state with
  | .absent => s
  | _ => State.produce s .down ⟨.release, BitVec.ofNat 24 s.adu.base, n.extractLsb' 0 16⟩

/-- R110, R123: what a port drops when it goes DOWN or absent: the register's and the deferred message are
each counted. -/
def State.dropCounts (s : State) (r : LinkPort) : State :=
  State.countIf (State.countIf s r.register.isSome .linkTimeouts) r.deferred.isSome .linkTimeouts

/-- R110: a port's outbound state cleared; the TAKEN count stops, and stands at 0 (log 32). -/
def LinkPort.cleared (r : LinkPort) : LinkPort :=
  { r with register := none, takenCount := 0, deferred := none, replies := [] }

/-- R110: an UP port goes DOWN. -/
def State.portDown (s : State) (p : Port) : State :=
  let r := State.port s p
  State.dropCounts
    (State.notify (State.setPort s p (LinkPort.cleared { r with state := .down })) (.link p .down)) r

/-- R112: whether a port holds an outstanding message that has left it. -/
def LinkPort.outstandingLeft (r : LinkPort) : Bool :=
  match r.register with
  | some o => o.phase == .left
  | none => false

/-- R113: an outstanding message that has been sent is given up. -/
def State.takenExpiry (s : State) (p : Port) : State :=
  State.count (State.setPort s p (LinkPort.promote (State.port s p))) .linkTimeouts

/-! ### The transmitter (R105, R106) -/

/-- R106: a BEACON falls due every 100 ms; one still waiting is replaced by it. -/
def State.beaconDue (s : State) (p : Port) : State :=
  let r := State.port s p
  State.setPort s p { r with beaconTimer := r.beaconTimer - 100, beaconDue := true }

/-- 11 Table 11-5: the kind code of a produced message. -/
def DataKind.code : DataKind → Byte
  | .release => msgRelease
  | .curtail => msgCurtail

/-- R105: the flags byte of a RELEASE, CURTAIL or BEACON: bit 0 is FLOOD. -/
def State.floodFlags (s : State) : Byte := if s.scu.mode = .flood then 1 else 0

/-- R105: a message as the transmitter sends it: sender and check filled in. -/
def State.outgoing (s : State) (kind tag flags : Byte) (value : BitVec 24) (dur : Word) : LinkMsg :=
  LinkMsg.sealed ⟨kind, BitVec.ofNat 8 (stationIndex s.table), tag, flags, value, dur, 0, 0⟩

/-- The message in progress has left the line: if it was the register's, the TAKEN count starts (R111). -/
def LinkPort.lineFree (r : LinkPort) : LinkPort :=
  match r.register with
  | some o =>
    if o.phase = .onLine then { r with register := some { o with phase := .left }, takenCount := 0, line := none }
    else { r with line := none }
  | none => { r with line := none }

/-- R105: the line of a present port is free, and the transmitter chooses the next message: a TAKEN reply,
the register's message not yet sent, or a BEACON that is due. -/
def State.sendNext (s : State) (r : LinkPort) : LinkPort :=
  match r.replies with
  | q :: rest => { r with replies := rest, line := some (State.outgoing s msgTaken q.tag q.kind 0 0) }
  | [] =>
    match r.register with
    | some ⟨m, tag, .waiting⟩ =>
      { r with
        register := some ⟨m, tag, .onLine⟩,
        line := some (State.outgoing s (DataKind.code m.kind) tag (State.floodFlags s) m.value m.dur) }
    | _ =>
      if r.beaconDue then
        { r with
          beaconDue := false,
          line := some (State.outgoing s msgBeacon 0 (State.floodFlags s) 0
            (s.scu.intervalNumber.extractLsb' 0 16)) }
      else r

/-- R105, R123: the line of port `p` falls free. An absent port finishes the message in progress and
falls silent. -/
def State.transmit (s : State) (p : Port) : State :=
  let r := LinkPort.lineFree (State.port s p)
  match r.state with
  | .absent => State.setPort s p r
  | _ => State.setPort s p (State.sendNext s r)

/-! ### The arrival queue (06 sections 6.7 and 6.8) -/

/-- R119: due interval `x` is before due interval `y`. -/
def dueBefore (x y : BitVec 32) : Bool := 0 < (y - x).toNat && (y - x).toNat ≤ 2147483647

/-- R119: a due interval is at or before interval `n`. -/
def dueBy (due n : BitVec 32) : Bool := (n - due).toNat ≤ 2147483647

/-- R119: how many entries the arrival queue holds at most. -/
abbrev arrivalCapacity : Nat := 64

/-- R119: an entry inserted after every entry due before it. -/
def insertArrival (e : Arrival) : List Arrival → List Arrival
  | [] => [e]
  | x :: rest => if dueBefore x.due e.due then x :: insertArrival e rest else e :: x :: rest

/-- R119: the queue with the entry of the same due interval replaced. -/
def replaceArrival (e : Arrival) (q : List Arrival) : List Arrival :=
  q.map (fun x => if x.due = e.due then e else x)

/-- The expected inflow a matured entry gives (R121, R122). -/
def Arrival.inflow (e : Arrival) : Inflow := ⟨e.discharge, e.flood, e.source⟩

/-- R119, R120: an arrival entry placed in the queue, the head maturing early when 64 are queued. -/
def State.placeArrival (s : State) (e : Arrival) : State :=
  if s.clu.arrivals.any (fun x => x.due = e.due) then
    { s with clu := { s.clu with arrivals := replaceArrival e s.clu.arrivals } }
  else
    match s.clu.arrivals with
    | [] => { s with clu := { s.clu with arrivals := [e] } }
    | x :: rest =>
      if s.clu.arrivals.length < arrivalCapacity then
        { s with clu := { s.clu with arrivals := insertArrival e (x :: rest) } }
      else
        State.recomputeBounds
          (State.count { s with clu := { s.clu with
            arrivals := insertArrival e rest, inflow := some (Arrival.inflow x) } } .queueEarly)

/-- R118: the arrival entry of a RELEASE taken now. -/
def State.arrivalOf (s : State) (m : LinkMsg) : Arrival :=
  { received := s.scu.intervalNumber, due := s.scu.intervalNumber + BitVec.ofNat 32 (linkLag s.table),
    discharge := m.value.toNat, flood := m.flags.getLsbD 0, source := m.dur }

/-- R121: every entry due at or before interval `n` matures, from the head of the queue in order. -/
def State.mature (s : State) (n : BitVec 32) : State :=
  let due := s.clu.arrivals.takeWhile (fun x => dueBy x.due n)
  match due.getLast? with
  | none => s
  | some e =>
    State.recomputeBounds { s with clu := { s.clu with
      arrivals := s.clu.arrivals.dropWhile (fun x => dueBy x.due n), inflow := some (Arrival.inflow e) } }

/-! ### Receipt (R107 to R112, R116 to R118) -/

/-- R105, R116: a TAKEN reply placed for the transmitter, or discarded when two are waiting. -/
def State.placeReply (s : State) (p : Port) (m : LinkMsg) : State :=
  let r := State.port s p
  if r.replies.length < 2 then State.setPort s p { r with replies := r.replies ++ [⟨m.kind, m.tag⟩] } else s

/-- R112: whether a TAKEN matches a port's outbound register. -/
def LinkPort.matchesTaken (r : LinkPort) (m : LinkMsg) : Bool :=
  match r.register with
  | some o => o.phase == .left && m.flags == DataKind.code o.msg.kind && m.tag == o.tag
  | none => false

/-- R112: a valid TAKEN. -/
def State.takeTaken (s : State) (p : Port) (m : LinkMsg) : State :=
  let r := State.port s p
  if LinkPort.matchesTaken r m then State.setPort s p (LinkPort.promote r) else s

/-- R109, step 3: a valid message disposed of by its kind and port. -/
def State.disposeMsg (s : State) (p : Port) (m : LinkMsg) : State :=
  if m.kind = msgBeacon then s
  else if m.kind = msgTaken then State.takeTaken s p m
  else if m.kind = msgRelease ∧ p = .up then
    State.placeReply (State.placeArrival s (State.arrivalOf s m)) p m
  else if m.kind = msgCurtail ∧ p = .down then
    State.placeReply (State.setCurtail s m.value.toNat m.dur.toNat) p m
  else State.count s .linkRejects

/-- R108, R109: a valid message: the mark clears, the silence count restarts, and a DOWN port comes UP. -/
def State.validMsg (s : State) (p : Port) : State :=
  let r := State.port s p
  let s := State.setPort s p { r with miswired := false, silence := 0, state := .up }
  if r.state = .down then State.notify s (.link p .up) else s

/-- R108: a miswired message: discarded and counted, with one notice per run. -/
def State.miswiredMsg (s : State) (p : Port) : State :=
  let r := State.port s p
  let s := State.count s .linkRejects
  if r.miswired then s
  else State.notify (State.setPort s p { r with miswired := true }) (.link p .miswired)

/-- R104, R107 to R109: twelve bytes gathered on port `p`. An absent port discards them. -/
def State.linkArrival (s : State) (p : Port) (m : LinkMsg) : State :=
  match (State.port s p).state with
  | .absent => s
  | _ =>
    if !LinkMsg.good m then State.count s .linkRejects
    else if expectedSender s.table p ≠ some m.sender.toNat then State.miswiredMsg s p
    else State.disposeMsg (State.validMsg s p) p m

/-- R107: an idle gap of 2 ms or more after some of a message's twelve bytes. -/
def State.byteTimeout (s : State) (p : Port) (gathered : Nat) : State :=
  match (State.port s p).state with
  | .absent => s
  | _ => State.countIf s (0 < gathered && gathered < 12) .linkRejects

/-! ### Installs (R123) and the load (R104) -/

/-- R123: a port becomes present in state DOWN, its tag count as it stood. -/
def LinkPort.fitted (r : LinkPort) : LinkPort :=
  { r with state := .down, silence := 0, miswired := false, register := none, takenCount := 0,
           deferred := none, replies := [], beaconTimer := 0, beaconDue := false }

/-- R104, R123: a port becomes absent; the message in progress on its line stays until it is completed. -/
def LinkPort.removed (r : LinkPort) : LinkPort :=
  { LinkPort.cleared r with state := .absent, silence := 0, miswired := false, beaconTimer := 0, beaconDue := false }

/-- R123: a LINK install acting on one port. -/
def State.fitPort (s : State) (p : Port) : State :=
  let r := State.port s p
  match r.state, portFitted s.table p with
  | .absent, true => State.setPort s p (LinkPort.fitted r)
  | .absent, false => s
  | _, true => s
  | .down, false => State.dropCounts (State.setPort s p (LinkPort.removed r)) r
  | .up, false =>
    State.dropCounts (State.notify (State.setPort s p (LinkPort.removed r)) (.link p .down)) r

/-- R123: a LINK install, the up port first (log 17). -/
def State.installLink (s : State) : State := State.fitPort (State.fitPort s .up) .down

/-- R104: a port at the end of the start-up load. -/
def startPort (t : WordStore) (p : Port) : LinkPort := { state := if portFitted t p then .down else .absent }

/-- R104, R122: the CLU at the end of the start-up load. -/
def State.startClu (s : State) : State :=
  { s with clu := { up := startPort s.table .up, down := startPort s.table .down } }

end Sys2Proof.Machine
end

