-- ==== Sys2Proof/Machine/Gates.lean ====
section
/-! DEFINITION. Gate records: POSITION and STAGE reports, GATE_OUT and GATE_IN, GATE installs, deviation
supervision (02), and the owner changes of trips and action lists (04). -/

namespace Sys2Proof.Machine

/-- R41, R80: a record that enters BLOCKED, LOCAL, ACQUIRE or VACANT: the deviation ends, and a gate that
leaves STALE with its loss action gives it up. R80 adds that opening, flow and hold count stay; a LOCAL report re-tracks
all the same (R25, R22; log 30). -/
def Gate.leaveService (r : Gate) (st : GateState) : Gate :=
  { r with
    state := st, devCount := 0, deviating := false,
    owner := if r.state = .stale ∧ r.owner = .loss then .dispatch else r.owner }

/-- R32: a GATE_STATE notice when the gate's state changed. -/
def State.noticeState (s : State) (g : GateIx) (old new : GateState) : State :=
  if old = new then s else State.notify s (.gateState g new)

/-- R40: the deviation check of an OK report of gate `g`. -/
def State.deviationCheck (s : State) (g : GateIx) (measured : Nat) : State :=
  let r := State.gate s g
  if devLimit s.table g < distance measured r.admitted then
    let n := satAdd 255 r.devCount 1
    if devTime s.table g ≤ n ∧ r.deviating = false then
      State.notify (State.setGate s g { r with devCount := n, deviating := true }) (.deviation g)
    else State.setGate s g { r with devCount := n }
  else State.setGate s g { r with devCount := 0, deviating := false }

/-- R23: the drive status a value B reports. -/
def driveStatusOf (b : Word) : DriveStatus :=
  match b.toNat with
  | 0 => .ok
  | 2 => .localControl
  | _ => .fault

/-- Gate `g` re-tracked (R22) and moved to another state, with its block causes (R24 to R27). -/
def State.retrackTo (s : State) (g : GateIx) (opening : Nat) (st : GateState) (fault : Bool) : State :=
  let old := (State.gate s g).state
  let s := State.retrack s g opening
  let r := State.gate s g
  let r := match st with
    | .service => { r with state := .service }
    | _ => Gate.leaveService r st
  State.noticeState (State.setGate s g { r with causeFault := fault, causeOut := false }) g old st

/-- R25, R28: gate `g` blocked where it stands: its opening and flow are kept. -/
def State.block (s : State) (g : GateIx) (fault out : Bool) : State :=
  let r := State.gate s g
  State.noticeState
    (State.setGate s g { Gate.leaveService r .blocked with causeFault := fault, causeOut := out }) g r.state .blocked

/-- R24, R26: the state a re-tracked gate goes to by its drive status. -/
def DriveStatus.gateState : DriveStatus → GateState
  | .ok => .service
  | .localControl => .localControl
  | .fault => .blocked

/-- R24 to R27: what a report does to gate `g`, whose measured opening and drive status are written. -/
def State.actOnReport (s : State) (g : GateIx) (m : Nat) (d : DriveStatus) : State :=
  let r := State.gate s g
  match r.state with
  | .vacant => s
  | .acquire => State.retrackTo s g m (DriveStatus.gateState d) (d == .fault)
  | .service | .stale =>
    match d with
    | .ok => State.deviationCheck s g m
    | .fault => State.block s g true false
    | .localControl => State.retrackTo s g m .localControl false
  | .localControl => State.retrackTo s g m (DriveStatus.gateState d) (d == .fault)
  | .blocked =>
    match d with
    | .fault => State.setGate s g { r with causeFault := true }
    | _ =>
      if r.causeOut then State.setGate s g { r with causeFault := false }
      else State.retrackTo s g m (DriveStatus.gateState d) false

/-- R23: a tapped POSITION frame of gate `g`. -/
def State.takePosition (s : State) (g : GateIx) (a b : Word) : State :=
  let r := State.gate s g
  match r.state with
  | .vacant => s
  | _ =>
    let m := min 10000 a.toNat
    let d := driveStatusOf b
    State.actOnReport (State.setGate s g { r with measured := some m, drive := some d }) g m d

/-- R33, R98: a tapped STAGE frame of gauge `g`; a good report of the headwater gauge is an entry test. -/
def State.takeStage (s : State) (g : GaugeIx) (level : Word) (bad : Bool) : State :=
  let r := State.gauge s g.val
  if bad then State.setGauge s g { r with bad := satAdd 65535 r.bad 1 }
  else
    let s := State.setGauge s g { r with level := some level.toNat, age := 0 }
    if headwaterGauge s.table = g.val then State.floodTest s else s

/-- R34: every gauge age increased by one. -/
def State.ageGauges (s : State) : State :=
  { s with
    adu := { s.adu with gauges := mapVec (fun _ r => { r with age := satAdd 65535 r.age 1 }) s.adu.gauges },
    handed := { s.handed with ages := false } }

/-- R28: a GATE_OUT event. A gate in ACQUIRE becomes counted with its recorded flow (R39). -/
def State.gateOut (s : State) (g : GateIx) : State :=
  let r := State.gate s g
  match r.state with
  | .vacant => s
  | .acquire => State.block (State.setTally s (s.adu.tally + r.flow)) g r.causeFault true
  | .blocked => State.setGate s g { r with causeOut := true }
  | _ => State.block s g r.causeFault true

/-- R29: a GATE_IN event. -/
def State.gateIn (s : State) (g : GateIx) : State :=
  let r := State.gate s g
  if r.state = .blocked ∧ r.causeOut = true then
    if r.causeFault then State.setGate s g { r with causeOut := false }
    else
      State.notify
        (State.setGate (State.setTally s (s.adu.tally - r.flow)) g
          { r with state := .acquire, causeOut := false, admitted := 0, flow := 0, lastDir := .none,
                   devCount := 0, deviating := false })
        (.gateState g .acquire)
  else s

/-- R30: a gate emptied by an install of kind ABSENT. The admitted opening, recorded flow and hold count become 0 also
for a gate that gives up its loss action, where R80 says that they stay: R30 is followed (log 30). -/
def Gate.vacated (r : Gate) : Gate :=
  { r with
    state := .vacant, causeFault := false, causeOut := false, admitted := 0, flow := 0, lastDir := .none,
    measured := none, drive := none, holdCount := 0, devCount := 0, deviating := false,
    owner := if r.owner = .loss then .dispatch else r.owner }

/-- R30, R31: an install of gate `g`'s group applied to its live state. -/
def State.installGate (s : State) (g : GateIx) : State :=
  let r := State.gate s g
  match gateKind s.table g with
  | .absent =>
    State.noticeState
      (State.setGate (State.setTally s (tallyLeave s.adu.tally r)) g (Gate.vacated r)) g r.state .vacant
  | _ =>
    match r.state with
    | .vacant => State.notify (State.setGate s g { r with state := .acquire }) (.gateState g .acquire)
    | _ => s

/-- R165, R21: every GATE group applied to its gate, in rising order (log 17). -/
def State.installGates (s : State) : State := allGates.foldl State.installGate s

/-- R21, R34, R88: the gate table and the gauges at the end of the start-up load. -/
def State.startAdu (s : State) : State :=
  let fresh : Adu := {}
  { s with adu := { fresh with
      gates := mapVec
        (fun g r => if gateKind s.table g = .absent then r else { r with state := .acquire }) fresh.gates } }

/-! ### Trips and action lists -/

/-- R70, R72: gate `g` is a WICKET of unit `u` as installed. -/
def wicketOf (t : WordStore) (g : GateIx) (u : Nat) : Bool :=
  gateKind t g == .wicket && gateUnit t g == u

/-- R70: case 2 applies to gate `g`: its installed kind is WICKET and its unit's trip line is active. -/
def State.tripped (s : State) (g : GateIx) : Bool :=
  gateKind s.table g == .wicket &&
    (if h : gateUnit s.table g < 6 then State.inputActive s (.trip ⟨gateUnit s.table g, h⟩) else false)

/-- R72: the owner a gate takes when a trip no longer holds it: ENGINE with the action the current state
names for it, unless released; DISPATCH otherwise. -/
def afterTrip (l : ActionList) (g : GateIx) (r : Gate) : Gate :=
  match ActionList.find l g with
  | some a => if r.released then { r with owner := .dispatch } else { r with owner := .engine, target := some a }
  | none => { r with owner := .dispatch }

/-- R72: a trip line becomes active. -/
def State.tripActive (s : State) (u : UnitIx) : State :=
  State.reportOwnership (State.mapGates s (fun g r =>
    if wicketOf s.table g u.val then { r with owner := .trip } else r))

/-- R72: a trip line becomes inactive. -/
def State.tripInactive (s : State) (u : UnitIx) : State :=
  let l := actionList s.table s.sqe.current
  State.reportOwnership (State.mapGates s (fun g r =>
    if r.owner = .trip ∧ wicketOf s.table g u.val = true then afterTrip l g r else r))

/-- R75: an action list applied to one gate. Between a GATE install of another kind or unit and the gate's next
selection, R131's table disagrees: it says ENGINE for a named gate with owner TRIP that no trip line holds any more, and
TRIP for a named WICKET of a tripped unit whose owner is not yet TRIP. R75, which goes by the owner, is followed in
both: TRIP stays, and any other owner becomes ENGINE (log 33). -/
def Gate.applyAction (a : Option Target) (r : Gate) : Gate :=
  match a with
  | some x =>
    if r.owner = .trip then { r with released := false, target := some x }
    else { r with released := false, owner := .engine, target := some x }
  | none =>
    if r.owner = .engine then { r with released := false, owner := .dispatch, target := none }
    else { r with released := false }

/-- R75: an entered state's action list applied to every gate as one act, and the ownership reported. -/
def State.applyActions (s : State) (l : ActionList) : State :=
  State.reportOwnership (State.mapGates s (fun g r => Gate.applyAction (ActionList.find l g) r))

end Sys2Proof.Machine
end

