-- ==== Sys2Proof/Machine/Panel.lean ====
section
/-! DEFINITION. The Supervision and Panel Unit (08): heartbeats, the supervision window, the panel filters
and the first reading. -/

namespace Sys2Proof.Machine

/-- R145: the SPU's comparison of the window count after the marker's increase. -/
def State.windowTest (s : State) : State :=
  if s.handed.window then
    let s := { s with handed := { s.handed with window := false } }
    if supervisionWindow s.table ≤ s.spu.window then
      match s.spu.sup with
      | .present =>
        State.notify { s with spu := { s.spu with sup := .lost, run := false } } (.dispatch false)
      | _ => if s.spu.run then { s with spu := { s.spu with run := false, lastSeq := none } } else s
    else s
  else s

/-- R143, R144: whether a heartbeat's sequence follows the last one, modulo 16. -/
def followsLast (last : Option (BitVec 4)) (q : BitVec 4) : Bool :=
  match last with
  | some l => q == l + 1
  | none => false

/-- R143, R144: a heartbeat taken by the SPU, after the marker event of its own cycle (08 section 8.2). -/
def State.takeHeartbeat (s : State) (q : BitVec 4) : State :=
  let s := State.windowTest s
  match s.spu.sup with
  | .present =>
    if followsLast s.spu.lastSeq q then
      { s with spu := { s.spu with lastSeq := some q, window := 0 } }
    else State.count { s with spu := { s.spu with lastSeq := some q } } .heartbeatErrors
  | _ =>
    if s.spu.run then
      if followsLast s.spu.lastSeq q then
        State.notify
          { s with spu := { s.spu with sup := .present, run := false, lastSeq := some q, window := 0 } }
          (.dispatch true)
      else State.count { s with spu := { s.spu with lastSeq := some q, window := 0 } } .heartbeatErrors
    else { s with spu := { s.spu with run := true, lastSeq := some q, window := 0 } }

/-- 08 Table 8-2: a changed filtered level handed to the input's readers. -/
def State.handInput (s : State) (i : PanelInput) (level : Bool) : State :=
  match i with
  | .floodAlarm => if level then State.floodTest s else s
  | .maintEnable => s
  | .trip u => if level then State.tripActive s u else State.tripInactive s u

/-- R147: one sample of an input at the level of its pin, which raises or clears its change count; while RESET_N is
asserted nothing is sampled (R148). The one sample of a tick is a part of that tick (Tick.lean). -/
def State.sampleInput (s : State) (i : PanelInput) : State :=
  if s.tst.resetAsserted then s
  else
    let r := State.panel s i
    State.setPanel s i { r with count := if r.pin = r.level then 0 else r.count + 1 }

/-- R147: whether the sample just taken is the fourth in succession at the other level. -/
def State.inputChanges (s : State) (i : PanelInput) : Bool :=
  !s.tst.resetAsserted && decide (4 ≤ (State.panel s i).count)

/-- R147: the filtered level becomes the sampled level, and the change is handed on; until the first reading nothing
is (R148). -/
def State.takeInput (s : State) (i : PanelInput) : State :=
  let r := State.panel s i
  let s := State.setPanel s i { r with level := r.pin, count := 0 }
  if s.rpu.state = .load then s else State.handInput s i r.pin

/-- R147, R148: the most recent sample of an input: the filtered level while the change count is 0, the other level
while it is not. With no sample taken since the reset that is inactive (log 10). -/
def PanelLine.lastSample (r : PanelLine) : Bool := if r.count = 0 then r.level else !r.level

/-- R148: the first reading of one input: its filtered level is its most recent sample. -/
def State.readInput (s : State) (i : PanelInput) : State :=
  let r := State.panel s i
  State.setPanel s i { r with level := PanelLine.lastSample r, count := 0 }

/-- R148: each input found active at the first reading handed on as a change to active. -/
def State.handIfActive (s : State) (i : PanelInput) : State :=
  if (State.panel s i).level then State.handInput s i true else s

/-- R148: the first reading. -/
def State.firstReading (s : State) : State :=
  allInputs.foldl State.handIfActive (allInputs.foldl State.readInput s)

end Sys2Proof.Machine
end

