-- ==== Sys2Proof/Machine/Engine.lean ====
section
/-! DEFINITION. The Sequence Engine (07): conditions, evaluation, entries, run control and restarts. -/

namespace Sys2Proof.Machine

/-- R125: whether a condition is true as its owners hold its inputs now; an index that CHECK refuses: log 19. -/
def State.holds (s : State) (x : Transition) : Bool :=
  match x.cond with
  | some .trip => if h : x.index < 6 then State.inputActive s (.trip ⟨x.index, h⟩) else false
  | some .noTrip => if h : x.index < 6 then !State.inputActive s (.trip ⟨x.index, h⟩) else false
  | some .flood => s.scu.mode == .flood
  | some .normal => s.scu.mode == .normal
  | some .gaugeAbove =>
    match State.freshLevel s x.index with
    | some level => x.value ≤ level
    | none => false
  | some .gaugeBelow =>
    match State.freshLevel s x.index with
    | some level => level < x.value
    | none => false
  | some .dispatchLost => s.spu.sup != .present
  | some .dispatchPresent => s.spu.sup == .present
  | some .linkDown => (State.port s (if x.index = 0 then .up else .down)).state != .up
  | some .dwell => x.value ≤ s.sqe.dwell
  | some .always => true
  | none => false

/-- R128: the first transition in table order that leaves the current state and whose condition is true. -/
def State.firstTransition (s : State) : Option Nat :=
  (List.range (min 24 (transitionCount s.table))).find?
    (fun n => (transitionAt s.table n).src == s.sqe.current && State.holds s (transitionAt s.table n))

/-- R130, steps 1 to 3: the SQE's record after an entry to state `dst`. -/
def Sqe.entered (q : Sqe) (t : WordStore) (dst : Nat) (cause : EntryCause) : Sqe :=
  { q with
    current := dst, dwell := 0, lastLeft := q.current, lastEntered := dst, lastCause := cause,
    seqA := levelA t dst, seqB := levelB t dst }

/-- R130: what an entry hands on: the action list to the ADU. -/
def State.handActions (s : State) (l : ActionList) : State :=
  { s with handed := { s.handed with actions := s.handed.actions ++ [l] } }

/-- R132: what an entry hands on: a CURTAIL_UP to the CLU, when the state has one. -/
def State.handCurtail (s : State) (c : Option (Nat × Nat)) : State :=
  match c with
  | some x => { s with handed := { s.handed with curtails := s.handed.curtails ++ [x] } }
  | none => s

/-- R130: an entry to a state. -/
def State.enter (s : State) (dst : Nat) (cause : EntryCause) : State :=
  let left := s.sqe.current
  let s := { s with sqe := Sqe.entered s.sqe s.table dst cause }
  let s := State.count (State.notify s (.engine left dst cause)) .engineTransitions
  State.handCurtail (State.handActions s (actionList s.table dst)) (curtailUpOf s.table dst)

/-- R128: the SQE's part of a marker after the dwell increase: an evaluation when the engine is running or
a step is pending and the minimum dwell is met; a step is spent either way. -/
def State.evaluate (s : State) : State :=
  if s.handed.evaluation then
    let s := { s with handed := { s.handed with evaluation := false } }
    let step := s.sqe.stepPending
    let s :=
      if (s.sqe.held = false ∨ step = true) ∧ minDwell s.table s.sqe.current ≤ s.sqe.dwell then
        match State.firstTransition s with
        | some n => State.enter s (transitionAt s.table n).dst (.transition n)
        | none => s
      else s
    if step then { s with sqe := { s.sqe with stepPending := false, held := true } } else s
  else s

/-- R137, R138: an entry to the initial state of the installed group, with cause RESTART. -/
def State.restart (s : State) : State := State.enter s (initialState s.table) .restart

/-- R134: an accepted ENGINE_HOLD. The SQE first ends the marker it has been handed (log 8). -/
def State.engineHold (s : State) : State :=
  let s := State.evaluate s
  { s with sqe := { s.sqe with held := true, stepPending := false } }

/-- R135: an accepted ENGINE_RUN. -/
def State.engineRun (s : State) : State :=
  let s := State.evaluate s
  { s with sqe := { s.sqe with held := false, stepPending := false } }

/-- R136: an accepted ENGINE_STEP. -/
def State.engineStep (s : State) : State :=
  let s := State.evaluate s
  { s with sqe := { s.sqe with stepPending := true } }

/-- R137: an accepted ENGINE_RESTART. -/
def State.engineRestart (s : State) : State := State.restart (State.evaluate s)

/-- R127: the start-up entry: no notice, no count, no CURTAIL_UP. -/
def State.startEngine (s : State) : State :=
  let t := s.table
  let i := initialState t
  let q : Sqe := { current := i, lastLeft := i, lastEntered := i, seqA := levelA t i, seqB := levelB t i }
  State.handActions { s with sqe := q } (actionList t i)

/-- R75: the ADU applies the oldest action list it has been handed. -/
def State.takeActions (s : State) : State :=
  match s.handed.actions with
  | [] => s
  | l :: rest => State.applyActions { s with handed := { s.handed with actions := rest } } l

/-- R132, R114: the CLU produces the oldest CURTAIL it has been asked for. -/
def State.takeCurtail (s : State) : State :=
  match s.handed.curtails with
  | [] => s
  | c :: rest => State.produceCurtail { s with handed := { s.handed with curtails := rest } } c.1 c.2

/-- R86: the boundary, when the marker's increase has brought it about. -/
def State.takeBoundary (s : State) : State := if s.handed.boundary then State.boundary s else s

/-- R87, R115, R96: the ADU's re-rating on the oldest boundary event it has been handed, with the bounds
and the RELEASE that follow from the new base. The boundary has tested the exit from FLOOD by then (R86; log 31). -/
def State.takeReRating (s : State) : State :=
  match s.handed.reRatings with
  | [] => s
  | n :: rest =>
    State.produceRelease
      (State.recomputeBounds (State.reRate { s with handed := { s.handed with reRatings := rest } })) n

/-- R121: the CLU's maturing on the oldest boundary event it has been handed. -/
def State.takeMaturity (s : State) : State :=
  match s.handed.maturities with
  | [] => s
  | n :: rest => State.mature { s with handed := { s.handed with maturities := rest } } n

/-- R34: the ADU's increase of the gauge ages, when it is still owed. -/
def State.takeAges (s : State) : State := if s.handed.ages then State.ageGauges s else s

/-- Every act that a block still owes for the last marker, in one order of those the spec allows (log 8):
the boundary, its re-rating and maturing, the window comparison, the evaluation, and what it hands on. -/
def State.settle (s : State) : State :=
  let s := State.takeBoundary s
  let s := Nat.repeat State.takeReRating s.handed.reRatings.length s
  let s := Nat.repeat State.takeMaturity s.handed.maturities.length s
  let s := State.evaluate (State.windowTest s)
  let s := Nat.repeat State.takeActions s.handed.actions.length s
  let s := Nat.repeat State.takeCurtail s.handed.curtails.length s
  State.takeAges s

end Sys2Proof.Machine
end

