-- ==== Sys2Proof/Machine/Flags.lean ====
section
/-! DEFINITION. What the part shows: the panel output lines (08 Table 8-3), the flags of a SETPOINT
(R64, R71, R81), and the codes and NOTICE frames of chapter 11. -/

namespace Sys2Proof.Machine

/-! ### Output lines -/

/-- R16, R17, R19: RING_FAULT is asserted while the RPU is in RING_LOST. -/
def State.ringFault (s : State) : Bool := s.rpu.state == .ringLost

/-- R146: DISPATCH_FAIL is asserted while supervision is ABSENT or LOST. -/
def State.dispatchFail (s : State) : Bool := s.spu.sup != .present

/-- R100: FLOOD is asserted while the station mode is FLOOD. -/
def State.floodLine (s : State) : Bool := s.scu.mode == .flood

/-- R170: ATTENTION is asserted while the notice queue holds an entry. -/
def State.attention (s : State) : Bool := !s.ncu.queue.isEmpty

/-! ### SETPOINT frames -/

/-- 11 Table 11-2: bit 0 URGENT, bit 1 CLAMPED, bit 2 HOLD, bit 3 ENGINE. -/
def setpointFlags (urgent clamped hold engine : Bool) : BitVec 4 :=
  BitVec.ofBool engine ++ (BitVec.ofBool hold ++ (BitVec.ofBool clamped ++ BitVec.ofBool urgent))

/-- 11 Table 11-2: URGENT in a received SETPOINT. -/
def urgentFlag (flags : BitVec 4) : Bool := flags.getLsbD 0

/-- R63: a SETPOINT naming gate `g`. -/
def setpoint (g : GateIx) (a : Nat) (b : Word) (tag : Byte) (flags : BitVec 4) : Frame :=
  goodFrame kindSetpoint ⟨flags, BitVec.ofNat 8 g.val, BitVec.ofNat 16 a, b, tag⟩

/-! ### Codes of chapter 11 -/

/-- GATE_STATE codes of 11 Table 11-3. -/
def GateState.code : GateState → Nat
  | .vacant => 0
  | .acquire => 1
  | .service => 2
  | .stale => 3
  | .blocked => 4
  | .localControl => 5

/-- Binding codes of 11 Table 11-3. -/
def Term.code : Term → Nat
  | .ceiling => 1
  | .rampUp => 2
  | .curtail => 3
  | .floodRamp => 4
  | .floor => 5
  | .rampDown => 6
  | .inflow => 7

/-- 0 for no binding bound. -/
def bindingCode : Option Term → Nat
  | some t => Term.code t
  | none => 0

def ClampReason.code : ClampReason → BitVec 4
  | .rate => 0
  | .travel => 1
  | .upper => 2
  | .lower => 3

def Mode.code : Mode → Nat
  | .normal => 0
  | .flood => 1

def ModeCause.code : ModeCause → Nat
  | .alarm => 0
  | .declare => 1
  | .stage => 2
  | .dwell => 3

def EntryCause.code : EntryCause → Nat
  | .transition t => t
  | .restart => 255

def portCode : Port → Nat
  | .up => 0
  | .down => 1

def LinkCause.code : LinkCause → Nat
  | .up => 0
  | .down => 1
  | .miswired => 2

/-- STORE notice codes of 11 Table 11-3. -/
def Operation.code : Operation → Nat
  | .store => 0
  | .reload => 1
  | .commissionLock => 2

/-- The fields of a NOTICE frame from numbers. -/
def noticeFields (code a b : Nat) (tag : Byte) (flags : BitVec 4) : FrameFields :=
  ⟨flags, BitVec.ofNat 8 code, BitVec.ofNat 16 a, BitVec.ofNat 16 b, tag⟩

/-- 11 Table 11-3: where each payload field of a notice stands. -/
def Notice.fields : Notice → FrameFields
  | .clamp g c => noticeFields 0 c.requested c.admitted
      (BitVec.ofNat 8 (bindingCode c.binding * 32 + g.val)) (ClampReason.code c.reason)
  | .gateState g st => noticeFields 1 (GateState.code st) 0 (BitVec.ofNat 8 g.val) 0
  | .deviation g => noticeFields 2 0 0 (BitVec.ofNat 8 g.val) 0
  | .mode m c => noticeFields 3 (Mode.code m) (ModeCause.code c) 0 0
  | .engine l e c => noticeFields 4 l e (BitVec.ofNat 8 (EntryCause.code c)) 0
  | .link p c => noticeFields 5 (portCode p) (LinkCause.code c) 0 0
  | .schedule n ended => noticeFields 6 n (if ended then 1 else 0) 0 0
  | .dispatch regained => noticeFields 7 0 (if regained then 1 else 0) 0 0
  | .ring len => noticeFields 8 len 0 0 0
  | .store op done => noticeFields 9 (Operation.code op) (if done then 0 else 1) 0 0
  | .image => noticeFields 10 0 0 0 0
  | .lost n => noticeFields 11 n 0 0 0

/-- R12: the NOTICE frame of an entry. -/
def Notice.frame (n : Notice) : Frame := goodFrame kindNotice (Notice.fields n)

end Sys2Proof.Machine
end

