-- ==== Sys2Proof/Machine/Admission.lean ====
section
/-! DEFINITION. Setpoint admission (03): the rate, travel and discharge stages, the outcome in the gate
record, the tally, the counters and the notice queue, and the SETPOINT frame. -/

namespace Sys2Proof.Machine

/-- R42: the source of a request. -/
inductive Source where
  | dispatch
  | engine
  | loss
deriving DecidableEq, Repr

/-- R42: what the selection submits. -/
structure Submission where
  source : Source
  /-- the received request, 0..65535 (R43) -/
  request : Nat
  urgent : Bool
  /-- the tag of a dispatch command; not read for the other sources (R65) -/
  tag : Byte
deriving DecidableEq, Repr

/-- R46: the elapsed count. -/
def elapsedCount (c last : BitVec 32) : Nat := max 1 (min 255 (c - last).toNat)

/-- R50: the cap of a rise. -/
def upperCap (u tally : Nat) : Nat := max u tally

/-- R52: the cap of a fall. -/
def lowerCap (l tally : Nat) : Nat := min l tally

/-- R50, R52: the target: the cap less the flows of the other counted gates. -/
def clampTarget (cap tally qOld : Nat) : Int := (cap : Int) - ((tally : Int) - (qOld : Int))

/-- The discharge stage's inputs: R49. -/
structure DischargeInput where
  flow : Nat → Nat
  a : Nat
  qOld : Nat
  tally : Nat
  u : Nat
  l : Nat
  lo : Nat
  hi : Nat
  r2 : Nat

/-- The discharge stage's outcome: the result, and whether the recorded flow keeps q_old (R54, first case). -/
structure Discharge where
  result : Nat
  heldFlow : Bool
deriving DecidableEq, Repr

/-- R49: q_new. -/
def DischargeInput.qNew (i : DischargeInput) : Nat := i.flow i.r2

/-- R49: the start s. -/
def DischargeInput.start (i : DischargeInput) : Nat := clampTo i.a i.lo i.hi

/-- R49: the prospective tally T'. -/
def DischargeInput.prospective (i : DischargeInput) : Int :=
  (i.tally : Int) - (i.qOld : Int) + (DischargeInput.qNew i : Int)

/-- R54: the outcome when no opening on the way meets the target. -/
def DischargeInput.noOpening (i : DischargeInput) : Discharge :=
  if i.lo ≤ i.a ∧ i.a ≤ i.hi then ⟨i.a, true⟩ else ⟨DischargeInput.start i, false⟩

/-- R50, R51: the upper discharge clamp. Up tests the target at its end alone, so with a stale q_old the flow it stops
at may be below q_old, and the tally may end below both L and where it stood, which R55's words exclude: R51 is
followed (log 26). -/
def DischargeInput.upper (i : DischargeInput) : Discharge :=
  let cap := upperCap i.u i.tally
  if DischargeInput.prospective i ≤ (cap : Int) then ⟨i.r2, false⟩
  else
    let target := clampTarget cap i.tally i.qOld
    let s := DischargeInput.start i
    if s ≤ i.r2 ∧ (i.flow s : Int) ≤ target then ⟨upTo i.flow target s i.r2, false⟩
    else DischargeInput.noOpening i

/-- R52, R53: the lower discharge clamp. As for the upper clamp, with a stale q_old Down may stop above q_old, and the
tally may end above both U and where it stood: R53 is followed (log 26). -/
def DischargeInput.lower (i : DischargeInput) : Discharge :=
  let cap := lowerCap i.l i.tally
  if (cap : Int) ≤ DischargeInput.prospective i then ⟨i.r2, false⟩
  else
    let target := clampTarget cap i.tally i.qOld
    let s := DischargeInput.start i
    if i.r2 ≤ s ∧ target ≤ (i.flow s : Int) then ⟨downTo i.flow target i.r2 s, false⟩
    else DischargeInput.noOpening i

/-- R49: the discharge stage of an admission that is not urgent. -/
def dischargeStage (i : DischargeInput) : Discharge :=
  if i.qOld < DischargeInput.qNew i then DischargeInput.upper i
  else if DischargeInput.qNew i < i.qOld then DischargeInput.lower i
  else ⟨i.r2, false⟩

/-- The three stages of one admission of gate `g`, computed from the state at its start. -/
structure Stages where
  /-- the request r (R43) -/
  r : Nat
  /-- R44 -/
  urgent : Bool
  /-- after the rate stage (R47) -/
  r1 : Nat
  /-- after the travel stage (R48) -/
  r2 : Nat
  /-- whether the flow at r2 rises (R49) -/
  rises : Bool
  /-- after the discharge stage -/
  out : Discharge
  /-- the recorded flow the admission leaves (R56) -/
  flow : Nat
deriving DecidableEq, Repr

/-- R47: the rate stage: r clamped to a - d .. a + d (the lower end held at 0, since r is not below it). -/
def rateStage (urgent : Bool) (r a d : Nat) : Nat := if urgent then r else clampTo r (a - d) (a + d)

/-- R43 to R54: the stages of an admission. -/
def State.stages (s : State) (g : GateIx) (x : Submission) : Stages :=
  let t := s.table
  let rec0 := State.gate s g
  let a := rec0.admitted
  let h := State.head s
  let flow := flowAt t g h
  let r := min x.request 10000
  let urgent := x.urgent && decide (r ≤ a)
  let d := gateRate t g * elapsedCount (State.cycle s) rec0.lastCycle
  let r1 := rateStage urgent r a d
  let r2 := clampTo r1 (travelMin t g) (travelMax t g)
  let i : DischargeInput :=
    { flow := flow, a := a, qOld := rec0.flow, tally := s.adu.tally, u := s.scu.upper, l := s.scu.lower,
      lo := travelMin t g, hi := travelMax t g, r2 := r2 }
  let out := if urgent then ⟨r2, false⟩ else dischargeStage i
  { r := r, urgent := urgent, r1 := r1, r2 := r2, rises := decide (rec0.flow < flow r2), out := out,
    flow := if out.heldFlow then rec0.flow else flow out.result }

/-- R59: an admission is a clamp when its result differs from the request. -/
def Stages.clamp (x : Stages) : Bool := x.out.result != x.r

/-- R59: the discharge stage moved the value. Where R54's start s differs from r2 it has moved it, whatever R54's remark
says (log 24). -/
def Stages.dischargeMoved (x : Stages) : Bool := x.out.result != x.r2

/-- R59: the last stage to move the value; in the case of log 24 that is the discharge stage, with UPPER or LOWER. -/
def Stages.reason (x : Stages) : ClampReason :=
  if Stages.dischargeMoved x then (if x.rises then .upper else .lower)
  else if x.r2 != x.r1 then .travel else .rate

/-- R60: the binding bound a clamp reports. -/
def Stages.binding (x : Stages) (upperTerm lowerTerm : Term) : Option Term :=
  match Stages.reason x with
  | .upper => some upperTerm
  | .lower => some lowerTerm
  | _ => none

/-- R57: the last direction after an admission that moves the gate from a to the result. -/
def newDirection (old : Direction) (a result : Nat) : Direction :=
  if a < result then .up else if result < a then .down else old

/-- R57: whether an admission counts a reversal. -/
def isReversal (old : Direction) (a result : Nat) : Bool :=
  (old == .down && decide (a < result)) || (old == .up && decide (result < a))

/-- R61: the station counters of an admission. -/
def State.countAdmission (s : State) (x : Stages) : State :=
  let c := Stages.clamp x
  let s := State.count s .admitted
  let s := State.countIf s (c && x.r1 != x.r) .clampRate
  let s := State.countIf s (c && x.r2 != x.r1) .clampTravel
  let s := State.countIf s (c && Stages.dischargeMoved x && x.rises) .clampCeiling
  State.countIf s (c && Stages.dischargeMoved x && !x.rises) .clampFloor

/-- R65: the tag an admission's frame carries. -/
def Submission.frameTag (x : Submission) (lastTag : Byte) : Byte :=
  match x.source with
  | .dispatch => x.tag
  | _ => lastTag

/-- R56, R57, R65: the gate record an admission leaves. -/
def Gate.withAdmission (r : Gate) (x : Submission) (st : Stages) (c : BitVec 32) : Gate :=
  { r with
    admitted := st.out.result, flow := st.flow, lastCycle := c,
    lastDir := newDirection r.lastDir r.admitted st.out.result,
    lastTag := Submission.frameTag x r.lastTag }

/-- R63, R64: the SETPOINT an admission supplies; `refused` is the value A of a dispatch command that
case 4 refuses in the same slot. -/
def admittedFrame (g : GateIx) (x : Submission) (st : Stages) (lastTag : Byte) (refused : Option Word) : Frame :=
  setpoint g st.out.result (refused.getD (BitVec.ofNat 16 x.request)) (Submission.frameTag x lastTag)
    (setpointFlags st.urgent (Stages.clamp st) false (x.source == .engine))

/-- R42, R56 to R62: an admission of gate `g` as one act, from the stages of the state at its start. -/
def State.admission (s : State) (g : GateIx) (x : Submission) : State :=
  let r := State.gate s g
  let st := State.stages s g x
  let s1 := State.setTally (State.setGate s g (Gate.withAdmission r x st (State.cycle s)))
    (tallyChange s.adu.tally r.flow st.flow)
  let s2 := State.addReversal (State.addTravel (State.countAdmission s1 st) g (distance st.out.result r.admitted))
    g (isReversal r.lastDir r.admitted st.out.result)
  if Stages.clamp st then
    State.notify s2 (.clamp g ⟨Stages.reason st, Stages.binding st s.scu.upperTerm s.scu.lowerTerm,
      st.r, st.out.result⟩)
  else s2

/-- An admission with the frame that fills the slot. -/
def State.admitFrame (s : State) (g : GateIx) (x : Submission) (refused : Option Word) : State × Frame :=
  (State.admission s g x, admittedFrame g x (State.stages s g x) (State.gate s g).lastTag refused)

end Sys2Proof.Machine
end

