-- ==== Sys2Proof/Machine/Selection.lean ====
section
/-! DEFINITION. The command-source selection of a COMMAND slot (04): its seven cases, the trip closure, hold
frames, refusals, the hold count and the STALE transition. -/

namespace Sys2Proof.Machine

/-- R8: a dispatch command as the RPU hands it on: value A, the URGENT flag and the tag. -/
structure DispatchCommand where
  valueA : Word
  urgent : Bool
  tag : Byte
deriving DecidableEq, Repr

/-- R43, R73: the request r of a dispatch command. -/
def DispatchCommand.request (c : DispatchCommand) : Nat := min c.valueA.toNat 10000

/-- R68: the command, when it is usable: dispatch supervision is PRESENT. -/
def State.usable (s : State) (cmd : Option DispatchCommand) : Option DispatchCommand :=
  if s.spu.sup = .present then cmd else none

/-- R68: a usable dispatch command refused for gate `g`; with no usable command nothing changes. -/
def State.refuse (s : State) (g : GateIx) (cmd : Option DispatchCommand) (why : RefusalReason) : State :=
  match cmd with
  | none => s
  | some c => State.count (State.setGate s g { State.gate s g with refusal := why, refused := c.valueA }) .refused

/-- R63, R68, R74: the value A of the refused command. -/
def refusedValue (cmd : Option DispatchCommand) : Option Word := cmd.map DispatchCommand.valueA

/-- R71: a trip closure of gate `g` to its travel_min. -/
def State.tripClosure (s : State) (g : GateIx) : State :=
  let r := State.gate s g
  let lo := travelMin s.table g
  let q := flowAt s.table g (State.head s) lo
  State.addTravel
    (State.setTally
      (State.setGate s g { r with admitted := lo, flow := q, lastCycle := State.cycle s, lastDir := .none })
      (tallyChange s.adu.tally r.flow q))
    g (distance lo r.admitted)

/-- R71: the trip closure frame. -/
def tripFrame (g : GateIx) (lo : Nat) (refused : Option Word) (tag : Byte) : Frame :=
  setpoint g lo (refused.getD (BitVec.ofNat 16 lo)) tag (setpointFlags false false false true)

/-- R81: the hold frame of a gate. -/
def holdFrame (g : GateIx) (r : Gate) (refused : Option Word) : Frame :=
  setpoint g r.admitted (refused.getD (BitVec.ofNat 16 r.admitted)) r.lastTag (setpointFlags false false true false)

/-- R70: case 2. The owner becomes TRIP, the gate is closed, the command refused, the hold count 0. -/
def State.caseTrip (s : State) (g : GateIx) (cmd : Option DispatchCommand) : State × Frame :=
  let s := State.reportOwnership (State.setGate s g { State.gate s g with owner := .trip, holdCount := 0 })
  let s := State.tripClosure s g
  let frame := tripFrame g (travelMin s.table g) (refusedValue cmd) (State.gate s g).lastTag
  (State.refuse s g cmd .tripped, frame)

/-- R72: at the start of a selection, a gate with owner TRIP that case 2 no longer holds takes its new owner. -/
def State.releaseTrip (s : State) (g : GateIx) : State :=
  let r := State.gate s g
  if r.owner = .trip then
    State.reportOwnership
      (State.setGate s g (afterTrip (actionList s.table s.sqe.current) g r))
  else s

/-- R73, R77: a dispatch command takes the gate: the hold count is 0, a STALE gate returns to SERVICE, the
owner is DISPATCH, and a gate taken from the engine is released. -/
def State.dispatchTakes (s : State) (g : GateIx) : State :=
  let r := State.gate s g
  let st := if r.state = .stale then .service else r.state
  let r' := { r with
    holdCount := 0, state := st, owner := .dispatch,
    released := if r.owner = .engine then true else r.released }
  let s := State.noticeState (State.setGate s g r') g r.state st
  if r.owner = .engine then State.reportOwnership s else s

/-- R73: whether case 3 applies to a usable command. -/
def State.urgentCase (s : State) (g : GateIx) (c : DispatchCommand) : Bool :=
  let r := State.gate s g
  c.urgent && decide (DispatchCommand.request c ≤ r.admitted) && (r.state == .service || r.state == .stale)

/-- R73 and R77: cases 3 and 6: the command is admitted with source DISPATCH. The GATE_STATE notice of a gate that
leaves STALE joins the queue before the admission's CLAMP: R77 says so for case 6, and case 3 is read alike (log 27). -/
def State.caseDispatch (s : State) (g : GateIx) (c : DispatchCommand) (urgent : Bool) : State × Frame :=
  State.admitFrame (State.dispatchTakes s g) g ⟨.dispatch, c.valueA.toNat, urgent, c.tag⟩ none

/-- R74: what an engine target submits. -/
def targetSubmission (t : Target) : Submission :=
  match t with
  | .set o => ⟨.engine, o, false, 0⟩
  | .closeUrgent => ⟨.engine, 0, true, 0⟩

/-- R74: case 4. An engine-owned gate always has a target (log 19). -/
def State.caseEngine (s : State) (g : GateIx) (cmd : Option DispatchCommand) : State × Frame :=
  let r := State.gate s g
  let s := State.refuse (State.setGate s g { r with holdCount := 0 }) g cmd .engineOwned
  State.admitFrame s g (targetSubmission (r.target.getD (.set r.admitted))) (refusedValue cmd)

/-- R76: case 5. -/
def State.caseBlocked (s : State) (g : GateIx) (cmd : Option DispatchCommand) : State × Frame :=
  (State.refuse s g cmd .notService, holdFrame g (State.gate s g) (refusedValue cmd))

/-- R78: the hold count rises, and a SERVICE gate that reaches a non-zero hold limit goes STALE. -/
def State.countHold (s : State) (g : GateIx) : State :=
  let r := State.gate s g
  let n := satAdd 255 r.holdCount 1
  let limit := holdLimit s.table g
  let st := if r.state = .service ∧ limit ≠ 0 ∧ limit ≤ n then .stale else r.state
  State.noticeState (State.setGate s g { r with holdCount := n, state := st }) g r.state st

/-- R78, R79: case 7. -/
def State.caseSilent (s : State) (g : GateIx) : State × Frame :=
  let s := State.countHold s g
  let r := State.gate s g
  if r.state = .stale ∧ driveTo s.table g = true then
    State.admitFrame (State.setGate s g { r with owner := .loss }) g
      ⟨.loss, safeOpening s.table g, false, 0⟩ none
  else
    let r' := { r with owner := if r.owner = .loss then .dispatch else r.owner }
    (State.count (State.setGate s g r') .holdFills, holdFrame g r none)

/-- R69: case 1. -/
def State.caseUncounted (s : State) (g : GateIx) (cmd : Option DispatchCommand) : State × Frame :=
  (State.refuse s g cmd .notService, blankIdle)

/-- R73 to R79: cases 3 to 7, in order. -/
def State.laterCases (s : State) (g : GateIx) (cmd : Option DispatchCommand) : State × Frame :=
  let r := State.gate s g
  match cmd with
  | some c =>
    if State.urgentCase s g c then State.caseDispatch s g c true
    else if r.owner = .engine then State.caseEngine s g cmd
    else if r.state = .blocked ∨ r.state = .localControl then State.caseBlocked s g cmd
    else State.caseDispatch s g c false
  | none =>
    if r.owner = .engine then State.caseEngine s g none
    else if r.state = .blocked ∨ r.state = .localControl then State.caseBlocked s g none
    else State.caseSilent s g

/-- R67: the selection for gate `g`: the first case of 04 Table 4-1 that applies. -/
def State.select (s : State) (g : GateIx) (cmd : Option DispatchCommand) : State × Frame :=
  let cmd := State.usable s cmd
  if GateState.counted (State.gate s g).state = false then State.caseUncounted s g cmd
  else if State.tripped s g then State.caseTrip s g cmd
  else State.laterCases (State.releaseTrip s g) g cmd

/-- R82: a slot-not-reached event for gate `g`. -/
def State.slotNotReached (s : State) (g : GateIx) : State :=
  let r := State.gate s g
  if (r.state = .service ∨ r.state = .stale) ∧ State.tripped s g = false ∧ r.owner ≠ .engine then
    State.countHold s g
  else s

end Sys2Proof.Machine
end

