-- ==== Sys2Proof/Machine/Validate.lean ====
section
/-! DEFINITION. Validation of the open group at CHECK (R157, 09 Tables 9-4 and 9-5): a list of tests, the first
that fails giving the word and the reason. They stand in word order, the tests of one word in the order the table lists
them; what the table puts after a "Then" follows the rest, and a failure of the group as a whole comes last (log 15). -/

namespace Sys2Proof.Machine

/-- 09 Table 9-4. -/
inductive Reason where
  | fieldRange
  | order
  | count
  | ends
  | curveRef
  | binding
  | roleDuplicate
  | index
  | duplicateAction
deriving DecidableEq, Repr

/-- 11 Table 11-4. -/
def Reason.code : Reason → Nat
  | .fieldRange => 1
  | .order => 2
  | .count => 3
  | .ends => 4
  | .curveRef => 5
  | .binding => 6
  | .roleDuplicate => 7
  | .index => 8
  | .duplicateAction => 9

/-- One test: whether it passes, and the word and reason it fails with. -/
structure Test where
  pass : Bool
  addr : Nat
  reason : Reason
deriving DecidableEq, Repr

/-- R157: the first failure ends the test. -/
def firstFailure : List Test → Option (Nat × Reason)
  | [] => none
  | x :: rest => if x.pass then firstFailure rest else some (x.addr, x.reason)

/-- A field that lies within a range. -/
def rangeTest (t : WordStore) (a lo hi : Nat) (why : Reason) : Test :=
  ⟨decide (lo ≤ WordStore.nat t a) && decide (WordStore.nat t a ≤ hi), a, why⟩

/-- A limit field of two words: its high word is at most 0x00FF. -/
def longTest (t : WordStore) (a : Nat) : Test := rangeTest t a 0 0xFF .fieldRange

/-! ### Roles and bindings within S -/

/-- The first `n` entries of the SLOTS group of a store, with their addresses. -/
def slotEntries (t : WordStore) (n : Nat) : List (Nat × Word) :=
  (List.range (min n 32)).map (fun e => (0x040 + e, WordStore.read t (0x040 + e)))

/-- A role that at most one entry within S may have. -/
def Role.single : Role → Bool
  | .management | .notice | .heartbeat => true
  | .unused | .command | .telemetry => false

/-- The addresses of the COMMAND entries bound to gate `g`. -/
def boundEntries (g : GateIx) (l : List (Nat × Word)) : List Nat :=
  (l.filter (fun p => entryRole p.2 == .command && boundGate p.2 == some g)).map Prod.fst

/-- The gates whose installed kind is present. -/
def presentGates (installed : WordStore) : List GateIx :=
  allGates.filter (fun g => gateKind installed g != .absent)

/-- R157: at most one MANAGEMENT, NOTICE and HEARTBEAT entry within S, at an entry that follows `earlier`. -/
def roleOnceTest (earlier : List (Nat × Word)) (p : Nat × Word) : Test :=
  ⟨!(Role.single (entryRole p.2) && earlier.any (fun e => entryRole e.2 == entryRole p.2)), p.1, .roleDuplicate⟩

/-- R157: a present gate bound to no more than one COMMAND entry, at an entry that follows `earlier`. -/
def boundOnceTest (installed : WordStore) (earlier : List (Nat × Word)) (p : Nat × Word) : Test :=
  ⟨!(entryRole p.2 == .command &&
      (presentGates installed).any (fun g => boundGate p.2 == some g && !(boundEntries g earlier).isEmpty)),
   p.1, .binding⟩

/-- R157: a present gate bound to some COMMAND entry; none is a failure of the group as a whole. -/
def boundTest (l : List (Nat × Word)) (base : Nat) (g : GateIx) : Test := ⟨!(boundEntries g l).isEmpty, base, .binding⟩

/-- R157: a gate bound to exactly one COMMAND entry, reported at a group's base (log 15). -/
def boundExactlyTest (l : List (Nat × Word)) (base : Nat) (g : GateIx) : Test :=
  ⟨(boundEntries g l).length == 1, base, .binding⟩

/-- SLOTS: the roles and bindings within S, entry by entry; each entry is tested against those before it. -/
def slotSetTests (installed : WordStore) : List (Nat × Word) → List (Nat × Word) → List Test
  | _, [] => []
  | earlier, p :: rest =>
    roleOnceTest earlier p :: boundOnceTest installed earlier p :: slotSetTests installed (earlier ++ [p]) rest

/-- No entry repeats a single role of an entry before it. -/
def rolesOnce : List (Nat × Word) → List (Nat × Word) → Bool
  | _, [] => true
  | earlier, p :: rest => (roleOnceTest earlier p).pass && rolesOnce (earlier ++ [p]) rest

/-! ### The groups of 09 Table 9-5 -/

/-- STATION. The tests on the installed SLOTS concern the slot count, the group's first word. -/
def stationTests (b installed : WordStore) : List Test :=
  let l := slotEntries installed (WordStore.nat b 0x000)
  [rangeTest b 0x000 1 32 .fieldRange, rangeTest b 0x001 100 65535 .fieldRange,
   rangeTest b 0x002 5 250 .fieldRange, rangeTest b 0x003 10 2550 .fieldRange,
   rangeTest b 0x004 0 7 .fieldRange, rangeTest b 0x005 0 7 .index, rangeTest b 0x006 0 7 .index,
   rangeTest b 0x007 1 65535 .fieldRange,
   ⟨decide (WordStore.nat b 0x009 < 32) || WordStore.nat b 0x009 == 0xFFFF, 0x009, .index⟩,
   longTest b 0x00A, longTest b 0x00C,
   ⟨decide (WordStore.long b 0x00C ≤ WordStore.long b 0x00A), 0x00C, .order⟩,
   longTest b 0x00E, longTest b 0x010, longTest b 0x012, rangeTest b 0x016 1 255 .fieldRange, longTest b 0x017,
   ⟨rolesOnce [] l, 0x000, .roleDuplicate⟩] ++
  (presentGates installed).map (boundExactlyTest l 0x000)

/-- SLOTS: the role of the entry at `a`. -/
def roleTest (b : WordStore) (a : Nat) : Test :=
  ⟨decide ((WordStore.nat b a) / 256 ≤ 5), a, .fieldRange⟩

/-- SLOTS: the binding of a COMMAND entry. -/
def commandBindingTest (b : WordStore) (a : Nat) : Test :=
  ⟨WordStore.nat b a / 256 != 1 || decide (WordStore.nat b a % 256 < 24), a, .fieldRange⟩

/-- SLOTS: the binding of a TELEMETRY entry: none, a gate or a gauge. -/
def telemetryBindingTest (b : WordStore) (a : Nat) : Test :=
  let x := WordStore.nat b a % 256
  ⟨WordStore.nat b a / 256 != 2 || decide (x < 24) || (decide (0x80 ≤ x) && decide (x ≤ 0x87)) || x == 0xFF,
   a, .fieldRange⟩

/-- SLOTS: each entry's own fields; then, within S, roles and bindings by entry, and last the gates bound in none. -/
def slotsTests (b installed : WordStore) : List Test :=
  let l := slotEntries b (slotCount installed)
  ((List.range 32).map (fun e => 0x040 + e)).flatMap
    (fun a => [roleTest b a, commandBindingTest b a, telemetryBindingTest b a]) ++
  slotSetTests installed [] l ++ (presentGates installed).map (boundTest l 0x040)

/-- GATE k: the fields of a present kind. -/
def presentTests (b installed : WordStore) (k : GateIx) : List Test :=
  let base := 0x080 + 16 * k.val
  let w := fun o => WordStore.nat b (base + o)
  [if w 0 = 1 then rangeTest b (base + 1) 0 5 .index else ⟨w 1 == 0xFFFF, base + 1, .fieldRange⟩,
   rangeTest b (base + 2) 0 10000 .fieldRange, rangeTest b (base + 3) 0 10000 .fieldRange,
   ⟨decide (w 2 ≤ w 3), base + 3, .order⟩,
   rangeTest b (base + 4) 1 10000 .fieldRange, rangeTest b (base + 5) 0 15 .fieldRange,
   ⟨decide (2 ≤ WordStore.nat installed (groupBase (curveGroup (w 5)))), base + 5, .curveRef⟩,
   rangeTest b (base + 6) 0 255 .fieldRange, rangeTest b (base + 7) 0 1 .fieldRange,
   ⟨w 7 != 1 || (decide (w 2 ≤ w 8) && decide (w 8 ≤ w 3)), base + 8, .fieldRange⟩,
   rangeTest b (base + 9) 0 10000 .fieldRange, rangeTest b (base + 10) 1 255 .fieldRange,
   boundExactlyTest (slotEntries installed (slotCount installed)) base k]

/-- GATE k. -/
def gateTests (b installed : WordStore) (k : GateIx) : List Test :=
  let base := 0x080 + 16 * k.val
  rangeTest b base 0 3 .fieldRange ::
    (if WordStore.nat b base = 0 then [] else presentTests b installed k)

/-- CURVE j, point by point: an opening (at the ends, in range, above the one before it), then its flow (not below the
one before it). -/
def curveTests (b : WordStore) (j : Nat) : List Test :=
  let base := groupBase (curveGroup j)
  let n := WordStore.nat b base
  let x := fun p => WordStore.nat b (base + 1 + 2 * p)
  let q := fun p => WordStore.nat b (base + 2 + 2 * p)
  rangeTest b base 2 12 .count ::
    (List.range (min n 12)).flatMap (fun p =>
      [⟨p != 0 || x p == 0, base + 1 + 2 * p, .ends⟩, ⟨p + 1 != n || x p == 10000, base + 1 + 2 * p, .ends⟩,
       rangeTest b (base + 1 + 2 * p) 0 10000 .fieldRange,
       ⟨p == 0 || decide (x (p - 1) < x p), base + 1 + 2 * p, .order⟩,
       ⟨p == 0 || decide (q (p - 1) ≤ q p), base + 2 + 2 * p, .order⟩])

/-- HEADTABLE, point by point: a head (above the one before it), then its factor (in range, not below the one before).
-/
def headTests (b : WordStore) : List Test :=
  let n := (headPoints b).length
  let h := fun p => WordStore.nat b (0x400 + 2 * p)
  let f := fun p => WordStore.nat b (0x401 + 2 * p)
  ⟨decide (1 ≤ n), 0x401, .count⟩ ::
    (List.range n).flatMap (fun p =>
      [⟨p == 0 || decide (h (p - 1) < h p), 0x400 + 2 * p, .order⟩,
       rangeTest b (0x401 + 2 * p) 1 16383 .fieldRange,
       ⟨p == 0 || decide (f (p - 1) ≤ f p), 0x401 + 2 * p, .order⟩])

/-- SCHEDULE n (its five limits occupy one word each, so each is in range). -/
def scheduleTests (b : WordStore) (n : Nat) : List Test :=
  let base := 0x440 + 8 * n
  let w := fun o => WordStore.nat b (base + o)
  [rangeTest b base 1 65535 .fieldRange, ⟨decide (w 2 ≤ w 1), base + 2, .order⟩,
   ⟨decide (w 6 < 32) || w 6 == 0xFFFF, base + 6, .index⟩]

/-- ENGINE: one action of a state: its gate, named by no action before it, and its opening or CLOSE_URGENT. -/
def actionTests (b : WordStore) (base a : Nat) : List Test :=
  [rangeTest b (base + 6 + 2 * a) 0 23 .fieldRange,
   ⟨(List.range a).all (fun c => WordStore.nat b (base + 6 + 2 * c) != WordStore.nat b (base + 6 + 2 * a)),
    base + 6 + 2 * a, .duplicateAction⟩,
   ⟨decide (WordStore.nat b (base + 7 + 2 * a) ≤ 10000) || WordStore.nat b (base + 7 + 2 * a) == 0xFFFF,
    base + 7 + 2 * a, .fieldRange⟩]

/-- ENGINE: one state. -/
def stateTests (b : WordStore) (s : Nat) : List Test :=
  let base := 0x540 + 75 + 54 * s
  let w := fun o => WordStore.nat b (base + o)
  [rangeTest b base 0 255 .fieldRange, rangeTest b (base + 1) 0 3 .fieldRange,
   ⟨w 2 == 0xFFFF || decide (w 2 ≤ 255), base + 2, .fieldRange⟩,
   ⟨w 2 == 0xFFFF || decide (w 3 ≤ 0xFF), base + 3, .fieldRange⟩,
   rangeTest b (base + 5) 0 24 .count] ++
  (List.range (min 24 (w 5))).flatMap (actionTests b base)

/-- ENGINE: the range of a condition's index (07 Table 7-2). -/
def indexInRange (c : Option Condition) (i : Nat) : Bool :=
  match c with
  | some .trip => i < 6
  | some .noTrip => i < 6
  | some .gaugeAbove => i < 8
  | some .gaugeBelow => i < 8
  | some .linkDown => i < 2
  | _ => true

/-- ENGINE: one transition. -/
def transitionTests (b : WordStore) (n : Nat) : List Test :=
  let x := transitionAt b n
  let base := 0x540 + 3 + 3 * n
  [⟨decide (x.src < stateCount b), base, .index⟩, ⟨decide (x.dst < stateCount b), base, .index⟩,
   ⟨x.cond.isSome, base + 1, .fieldRange⟩, ⟨indexInRange x.cond x.index, base + 1, .index⟩,
   ⟨x.cond != some .dwell || decide (x.value ≤ 255), base + 2, .fieldRange⟩]

/-- ENGINE. An initial state at or beyond the state count carries the group's base address (R157). -/
def engineTests (b : WordStore) : List Test :=
  [rangeTest b 0x540 1 8 .count, ⟨decide (initialState b < stateCount b), 0x540, .index⟩,
   rangeTest b 0x542 0 24 .count] ++
  (List.range (min 24 (transitionCount b))).flatMap (transitionTests b) ++
  (List.range (min 8 (stateCount b))).flatMap (stateTests b)

/-- LINK. -/
def linkTests (b : WordStore) : List Test :=
  [rangeTest b 0x740 0 1 .fieldRange, rangeTest b 0x741 0 1 .fieldRange, rangeTest b 0x742 0 255 .fieldRange,
   rangeTest b 0x743 200 5000 .fieldRange, rangeTest b 0x744 50 2000 .fieldRange]

/-- The gate whose group is `n`. -/
def gateOfGroup (n : Nat) : Option GateIx :=
  if h : 2 ≤ n ∧ n < 26 then some ⟨n - 2, by omega⟩ else none

/-- 09 Table 9-5: the tests of group `n`, the buffer's words `b` against the installed groups. -/
def groupTests (n : Nat) (b installed : WordStore) : List Test :=
  match gateOfGroup n with
  | some k => gateTests b installed k
  | none =>
    if n = 0 then stationTests b installed
    else if n = 1 then slotsTests b installed
    else if n < 42 then curveTests b (n - 26)
    else if n = 42 then headTests b
    else if n < 75 then scheduleTests b (n - 43)
    else if n = 75 then engineTests b
    else linkTests b

/-- R157: the validation of an open group. -/
def validate (n : Nat) (b installed : WordStore) : Option (Nat × Reason) :=
  firstFailure (groupTests n b installed)

end Sys2Proof.Machine
end

