-- ==== Sys2Proof/Machine/StateSpace.lean ====
section
/-! DEFINITION. The STATE space (11 Table 11-8): every word of it as a view of the live state. -/

namespace Sys2Proof.Machine

/-- A number as a word. -/
def toWord (n : Nat) : Word := BitVec.ofNat 16 n

/-- The high word of a two-word quantity. -/
def highWord (n : Nat) : Word := BitVec.ofNat 16 (n / 65536)

/-- A flag as a word. -/
def flagWord (b : Bool) : Word := if b then 1 else 0

/-- A number or the code for absent. -/
def optWord (n : Option Nat) (absent : Word) : Word :=
  match n with
  | some x => toWord x
  | none => absent

def Direction.code : Direction → Nat
  | .none => 0
  | .up => 1
  | .down => 2

def DriveStatus.code : DriveStatus → Nat
  | .ok => 0
  | .fault => 1
  | .localControl => 2

def Owner.code : Owner → Nat
  | .dispatch => 0
  | .engine => 1
  | .trip => 2
  | .loss => 3

def RefusalReason.code : RefusalReason → Nat
  | .none => 0
  | .notService => 1
  | .tripped => 2
  | .engineOwned => 3

/-- 11 Table 11-8: an engine target: 0xFFFF absent, 0xFFFE CLOSE_URGENT. -/
def targetWord : Option Target → Word
  | none => 0xFFFF
  | some .closeUrgent => 0xFFFE
  | some (.set o) => toWord o

/-- 11 Table 11-8: the 16 words of a gate. -/
def gateWords (r : Gate) : List Word :=
  [toWord (GateState.code r.state),
   toWord ((if r.causeFault then 1 else 0) + (if r.causeOut then 2 else 0)),
   toWord r.admitted, toWord r.flow, highWord r.lastCycle.toNat, toWord r.lastCycle.toNat,
   toWord (Direction.code r.lastDir), optWord r.measured 0xFFFF,
   optWord (r.drive.map DriveStatus.code) 0xFFFF, toWord r.holdCount,
   toWord (r.devCount + (if r.deviating then 0x8000 else 0)),
   toWord (Owner.code r.owner + (if r.released then 0x8000 else 0)),
   targetWord r.target, toWord r.lastTag.toNat, toWord (RefusalReason.code r.refusal), r.refused]

/-- 11 Table 11-8: the 4 words of a gauge. -/
def gaugeWords (r : Gauge) : List Word :=
  [toWord (r.level.getD 0), flagWord r.level.isSome, toWord r.age, toWord r.bad]

/-- The two words of a quantity. -/
def pairWords (n : Nat) : List Word := [highWord n, toWord n]

/-- 11 Table 11-8: cursor, block and intervals remaining. -/
def cursorWords : Cursor → List Word
  | .none => [0, 0, 0]
  | .block n left => [1, toWord n, toWord left]
  | .holdingLast => [2, 0, 0]

/-- Sixteen flags in a word, the first in bit 0. -/
def packFlags (l : List Bool) : Word :=
  BitVec.ofNat 16 ((l.take 16).foldr (fun b n => 2 * n + (if b then 1 else 0)) 0)

/-- 11 Table 11-8: the words at 0x1C0. -/
def State.scuWords (s : State) : List Word :=
  pairWords s.adu.tally ++ pairWords s.adu.base ++
  pairWords s.scu.upper ++ [toWord (Term.code s.scu.upperTerm)] ++
  pairWords s.scu.lower ++ [toWord (Term.code s.scu.lowerTerm)] ++
  [toWord (Mode.code s.scu.mode), flagWord s.scu.declared, toWord s.scu.exitDwell] ++
  pairWords s.scu.intervalNumber.toNat ++ [toWord s.scu.cycleCount, toWord s.scu.intervalLength] ++
  cursorWords s.scu.cursor ++ [optWord s.scu.source 0xFFFF] ++
  pairWords s.scu.limits.ceiling ++ pairWords s.scu.limits.floor ++ pairWords s.scu.limits.rampUp ++
  pairWords s.scu.limits.rampDown ++ pairWords s.scu.limits.storage ++
  pairWords s.scu.curtailCeiling ++ [toWord s.scu.curtailLeft] ++
  (match s.clu.inflow with
   | some i => flagWord true :: pairWords i.discharge ++ [flagWord i.flood, i.source]
   | none => [0, 0, 0, 0, 0]) ++
  List.replicate 20 0 ++
  (let flags := s.clu.arrivals.map (fun e => e.flood)
   [packFlags flags, packFlags (flags.drop 16), packFlags (flags.drop 32), packFlags (flags.drop 48)]) ++
  [toWord s.clu.arrivals.length]

/-- 11 Table 11-8: the 4 words of a queue position. -/
def arrivalWords (e : Arrival) : List Word :=
  [toWord e.received.toNat,
   toWord ((e.due - e.received).toNat % 256 * 256 + e.discharge / 65536 % 256),
   toWord e.discharge, e.source]

/-- 11 Table 11-8: the words at 0x300. -/
def State.engineWords (s : State) : List Word :=
  let set := allGates.map (fun g => s.sqe.owned.contains g)
  [toWord s.sqe.current, toWord s.sqe.dwell, flagWord s.sqe.held, flagWord s.sqe.stepPending,
   toWord s.sqe.lastLeft, toWord s.sqe.lastEntered, toWord (EntryCause.code s.sqe.lastCause),
   packFlags (set.drop 16), packFlags set]

def SupState.code : SupState → Nat
  | .absent => 0
  | .present => 1
  | .lost => 2

def PortState.code : PortState → Nat
  | .down => 0
  | .up => 1
  | .absent => 2

/-- 11 Table 11-8: the 8 words of a port. -/
def portWords (r : LinkPort) : List Word :=
  [toWord (PortState.code r.state), flagWord r.miswired] ++
  (match r.register with
   | some o => [1, toWord (DataKind.code o.msg.kind).toNat, toWord o.tag.toNat] ++ pairWords o.msg.value.toNat
   | none => [0, 0, 0, 0, 0]) ++
  [match r.deferred with
   | some m => toWord (DataKind.code m.kind).toNat
   | none => 0]

/-- 11 Table 11-8: the words at 0x320. -/
def State.spuWords (s : State) : List Word :=
  [toWord (SupState.code s.spu.sup), optWord (s.spu.lastSeq.map BitVec.toNat) 0xFFFF, flagWord s.spu.run,
   toWord s.spu.window, packFlags (allInputs.map (State.inputActive s)), 0, 0, 0] ++
  portWords s.clu.up ++ portWords s.clu.down

/-- The operation codes of 11 Table 11-8, 0 for NONE. -/
def operationWord : Option Operation → Word
  | none => 0
  | some op => toWord (Operation.code op + 1)

/-- R159: the lock levels as numbers. -/
def Lock.level : Lock → Nat
  | .open => 0
  | .limits => 1
  | .full => 2

/-- 11 Table 11-8: the words at 0x410. -/
def State.mguWords (s : State) : List Word :=
  [toWord (Lock.level s.mgu.lock), flagWord s.mgu.commission, flagWord s.mgu.buffer.isSome,
   optWord (s.mgu.buffer.map EditBuffer.group) 0, toWord s.mgu.tablePtr.toNat, toWord s.mgu.statePtr.toNat,
   operationWord s.mgu.op,
   (match s.mgu.lastResult with
    | none => 0
    | some (_, done) => if done then 1 else 2),
   operationWord (s.mgu.lastResult.map Prod.fst)]

/-- The word of a list at a place, 0 beyond its end. -/
def wordAt (l : List Word) (i : Nat) : Word := l.getD i 0

/-- 11 Table 11-8, R152: one word of the STATE space; a word that holds no live quantity reads 0. -/
def State.stateWord (s : State) (a : Nat) : Word :=
  if h : a < 0x180 then wordAt (gateWords (State.gate s ⟨a / 16, by omega⟩)) (a % 16)
  else if a < 0x1A0 then wordAt (gaugeWords (State.gauge s ((a - 0x180) / 4))) (a % 4)
  else if a < 0x1C0 then 0
  else if a < 0x200 then wordAt (State.scuWords s) (a - 0x1C0)
  else if a < 0x300 then
    match s.clu.arrivals[(a - 0x200) / 4]? with
    | some e => wordAt (arrivalWords e) (a % 4)
    | none => 0
  else if a < 0x320 then wordAt (State.engineWords s) (a - 0x300)
  else if a < 0x340 then wordAt (State.spuWords s) (a - 0x320)
  else if h : 0x340 ≤ a ∧ a < 0x352 then toWord (s.ncu.bank.station[a - 0x340]'(by omega))
  else if h : 0x380 ≤ a ∧ a < 0x3C8 then
    wordAt (pairWords (s.ncu.bank.travel[(a - 0x380) / 3]'(by omega)) ++
      [toWord (s.ncu.bank.reversals[(a - 0x380) / 3]'(by omega))]) ((a - 0x380) % 3)
  else if a = 0x400 then toWord s.ncu.queue.length
  else if a = 0x401 then toWord s.ncu.lost
  else if 0x410 ≤ a then wordAt (State.mguWords s) (a - 0x410)
  else 0

end Sys2Proof.Machine
end

