-- ==== Sys2Proof/Machine/Store.lean ====
section
/-! DEFINITION. The Table Store's acts (09): installs and their hand-over to the blocks, the operations in
flight and their completions, resets and the start-up load. -/

namespace Sys2Proof.Machine

/-! ### Installs (R158, 09 Table 9-6) -/

/-- R103: a STATION install as the SCU takes it: an entry test and the bounds recomputed. The test is one of R98 in
full: taken in FLOOD while the entry condition holds, it sets the exit dwell count to 0 (R98; log 28, against R103), and
taken in NORMAL by an install whose stale limit makes a headwater gauge at or above the flood stage fresh, it enters
FLOOD with cause STAGE, by R98's list of events, although R98's last paragraph says that such an install causes no entry
by itself (log 34, the model's reading). -/
def State.installStation (s : State) : State := State.recomputeBounds (State.floodTest s)

/-- R158: the install of group `n`, whose words are in place, handed to the blocks it concerns. -/
def State.handInstall (s : State) (n : Nat) : State :=
  match gateOfGroup n with
  | some k => State.installGate s k
  | none =>
    if n = stationGroup then State.installStation s
    else if n = engineGroup then State.restart s
    else if n = linkGroup then State.installLink s
    else s

/-- R158, R138: group `n` replaced by the words of the buffer and handed on as one act. An evaluation that is owed
stays owed: commanded before the install it is taken wholly before it, afterwards wholly after it. A STATION install
acts on the supervision window at the next marker event (R142), so a comparison still owed for the last one is taken
first (log 8). -/
def State.install (s : State) (n : Nat) (words : WordStore) : State :=
  let s := if n = stationGroup then State.windowTest s else s
  State.handInstall { s with tst := { s.tst with table := installGroup n words s.table } } n

/-! ### Operations in flight (R161, R163 to R165) -/

/-- R163: an operation starts in flight. -/
def State.startOp (s : State) (op : Operation) : State := { s with mgu := { s.mgu with op := some op } }

/-- R164, R165, R161: an operation ends with its result and its STORE notice. -/
def State.endOp (s : State) (op : Operation) (done : Bool) : State :=
  State.notify { s with mgu := { s.mgu with op := none, lastResult := some (op, done) } } (.store op done)

/-- The state with another image. -/
def State.setImage (s : State) (i : Image) : State := { s with tst := { s.tst with image := i } }

/-- R164: an accepted STORE: the image is marked as being rewritten. -/
def State.startStore (s : State) : State :=
  State.startOp (State.setImage s { s.tst.image with good := false }) .store

/-- R164: the image a STORE that reads back well leaves. -/
def State.storedImage (s : State) : Image :=
  { words := storedWords s.table, lock := s.mgu.lock, commission := s.mgu.commission, good := true }

/-- R164: STORE completes; `ok` says whether the read-back matches. -/
def State.completeStore (s : State) (ok : Bool) : State :=
  match s.mgu.op with
  | some .store =>
    if ok then State.endOp (State.setImage s (State.storedImage s)) .store true
    else State.endOp (State.setImage s { s.tst.image with good := false }) .store false
  | _ => s

/-- R161: a lock level held at LIMITS or above. -/
def Lock.atLeastLimits : Lock → Lock
  | .open => .limits
  | l => l

/-- R161: an accepted COMMISSION_LOCK. With the flag already set it starts nothing. -/
def State.startCommission (s : State) : State :=
  if s.mgu.commission then s
  else
    State.startOp
      { s with
        tst := { s.tst with storedFlag := true },
        mgu := { s.mgu with commission := true, lock := Lock.atLeastLimits s.mgu.lock } }
      .commissionLock

/-- R161: COMMISSION_LOCK completes. An image whose checksum was bad is not written, and the result is FAILED. -/
def State.completeCommission (s : State) (ok : Bool) : State :=
  match s.mgu.op with
  | some .commissionLock =>
    let i := s.tst.image
    if i.good then
      if ok then
        State.endOp (State.setImage s { i with lock := Lock.atLeastLimits i.lock, commission := true })
          .commissionLock true
      else State.endOp (State.setImage s { i with good := false }) .commissionLock false
    else State.endOp s .commissionLock false
  | _ => s

/-- R165: one block's part of the install of a completed RELOAD. -/
def State.takeReload (s : State) (x : InstallTaker) : State :=
  match x with
  | .adu => State.installGates s
  | .scu => State.installStation s
  | .sqe => State.restart s
  | .clu => State.installLink s
  | .mgu => State.endOp { s with mgu := { s.mgu with buffer := none } } .reload true

/-- Each block exactly once: those named first in the order given, the others after them (log 17). -/
def takeOrder (order : List InstallTaker) : List InstallTaker :=
  (order ++ ([.adu, .scu, .sqe, .clu, .mgu] : List InstallTaker)).foldl (fun l x => if l.contains x then l else l ++ [x]) []

/-- R165: RELOAD completes, its groups taken by each block as an install of them would be (R138, R142; log 8). -/
def State.completeReload (s : State) (order : List InstallTaker) : State :=
  match s.mgu.op with
  | some .reload =>
    if s.tst.image.good then
      let s := State.windowTest s
      (takeOrder order).foldl State.takeReload
        { s with tst := { s.tst with table := installAll s.tst.image.words s.table } }
    else State.endOp s .reload false
  | _ => s

/-! ### Reset and the start-up load (R149, R166) -/

/-- R161, R164, R165: the image after an operation in flight is cut short. -/
def State.cutImage (s : State) : Image :=
  match s.mgu.op with
  | some .store => { s.tst.image with good := false }
  | some .commissionLock =>
    { s.tst.image with good := s.tst.image.good && Config.cutImageGood s.freeCount }
  | _ => s.tst.image

/-- R19, R149: every block at its power-on values, keeping the nonvolatile image, the stored copy of the
commission flag, the levels at the pins and the queue. -/
def State.powerOn (s : State) (resetAsserted : Bool) : State :=
  { State.reset with
    tst := { image := State.cutImage s, storedFlag := s.tst.storedFlag, resetAsserted := resetAsserted },
    spu := { inputs := mapVec (fun _ r => { pin := r.pin }) s.spu.inputs },
    freeCount := s.freeCount + 1,
    pending := s.pending }

/-- R149: whether an assertion of RESET_N is taken: always when it has its minimum width. -/
def State.resetTaken (s : State) (short : Bool) : Bool := !short || Config.shortResetTaken s.freeCount

/-- R149: an assertion of RESET_N, taken as a reset or ignored whole. One shorter than its minimum width
is over at once: taken, it has every effect, the load included. -/
def State.assertReset (s : State) (short : Bool) : State :=
  if State.resetTaken s short then State.powerOn s (!short) else { s with freeCount := s.freeCount + 1 }

/-- R166: the release of RESET_N begins the start-up load. -/
def State.releaseReset (s : State) : State := { s with tst := { s.tst with resetAsserted := false } }

/-- R166: the groups, lock level and commission flag that the load installs. -/
def State.loadImage (s : State) : State :=
  let i := s.tst.image
  let commission := s.tst.storedFlag || i.commission
  let lock := if i.good then i.lock else .open
  { s with
    tst := { s.tst with table := if i.good then storedWords i.words else blankWords },
    mgu := { s.mgu with
      commission := commission, lock := if commission then Lock.atLeastLimits lock else lock } }

/-- R166: the start-up load completes: an IMAGE notice for a bad checksum, then every block's start-up values. -/
def State.completeLoad (s : State) : State :=
  if s.rpu.state = .load ∧ s.tst.resetAsserted = false then
    let bad := !s.tst.image.good
    let s := State.loadImage s
    let s := if bad then State.notify s .image else s
    let s := { s with rpu := { s.rpu with state := .sync, gap := 0 } }
    let s := State.startClu (State.startScu (State.startAdu s))
    State.firstReading (State.startEngine s)
  else s

end Sys2Proof.Machine
end

