-- ==== Sys2Proof/Machine/Mgmt.lean ====
section
/-! DEFINITION. The Management Unit (09): the requests and commands of Tables 9-1 and 9-3, the tests of R151 in
their order, the effects, and the replies. -/

namespace Sys2Proof.Machine

/-! ### Codes (11 Table 11-4) -/

/-- The reply statuses. -/
inductive Status where
  | ok
  | nakRange
  | nakLocked
  | nakBusy
  | nakEdit
  | nakInvalid
  | nakMaint
  | nakOp
  | nakCheck
deriving DecidableEq, Repr

def Status.code : Status → Byte
  | .ok => 0
  | .nakRange => 1
  | .nakLocked => 2
  | .nakBusy => 3
  | .nakEdit => 4
  | .nakInvalid => 5
  | .nakMaint => 6
  | .nakOp => 7
  | .nakCheck => 8

/-- The requests of 09 Table 9-1. -/
inductive Op where
  | read
  | readNext
  | write
  | writeNext
  | setPointer
  | openEdit
  | check
  | abandon
  | capture
  | command
deriving DecidableEq, Repr

/-- 11 Table 11-4: the op code in the id of a MGMT_REQ. -/
def opOf (id : Byte) : Option Op :=
  match id.toNat with
  | 1 => some .read
  | 2 => some .readNext
  | 3 => some .write
  | 4 => some .writeNext
  | 5 => some .setPointer
  | 6 => some .openEdit
  | 7 => some .check
  | 8 => some .abandon
  | 9 => some .capture
  | 10 => some .command
  | _ => none

/-- The commands of 09 Table 9-3. -/
inductive Command where
  | engineHold
  | engineRun
  | engineStep
  | engineRestart
  | store
  | reload
  | lockRaise
  | lockLower
  | commissionLock
  | gateOut
  | gateIn
  | scheduleStart
  | floodDeclare
  | floodCancel
  | curtailRequest
deriving DecidableEq, Repr

/-- 11 Table 11-4: the command code in bits 15..8 of value B. -/
def commandOf (code : Byte) : Option Command :=
  match code.toNat with
  | 0 => some .engineHold
  | 1 => some .engineRun
  | 2 => some .engineStep
  | 3 => some .engineRestart
  | 4 => some .store
  | 5 => some .reload
  | 6 => some .lockRaise
  | 7 => some .lockLower
  | 8 => some .commissionLock
  | 9 => some .gateOut
  | 10 => some .gateIn
  | 11 => some .scheduleStart
  | 12 => some .floodDeclare
  | 13 => some .floodCancel
  | 14 => some .curtailRequest
  | _ => none

/-! ### The fields of a request -/

/-- The two address spaces of 09 section 9.2. -/
inductive Space where
  | table
  | state
deriving DecidableEq, Repr

/-- R150: bit 15 of value A selects the space. -/
def spaceOf (a : Word) : Space := if a.msb then .state else .table

/-- R150: bits 0 to 11 of value A hold the address. -/
def addressOf (a : Word) : Nat := (a.extractLsb' 0 12).toNat

/-- R150: bits 12 to 14 of value A must be 0. -/
def reservedClear (a : Word) : Bool := a.extractLsb' 12 3 == 0

/-- A value A: the space bit and an address (09 Table 9-2). -/
def spaceAddress (sp : Space) (a : Nat) : Word :=
  match sp with
  | .table => BitVec.ofNat 16 a
  | .state => BitVec.ofNat 16 (0x8000 + a)

/-- R152: the last address of a space. -/
def Space.last : Space → Nat
  | .table => tableEnd
  | .state => stateEnd

/-- R153: the pointer of a space. -/
def State.pointer (s : State) : Space → BitVec 12
  | .table => s.mgu.tablePtr
  | .state => s.mgu.statePtr

/-- R153: the state with the pointer of a space replaced. -/
def State.setPointer (s : State) (sp : Space) (p : BitVec 12) : State :=
  match sp with
  | .table => { s with mgu := { s.mgu with tablePtr := p } }
  | .state => { s with mgu := { s.mgu with statePtr := p } }

/-- The command a COMMAND request carries, and its argument (11 section 11.2). -/
def commandIn (b : Word) : Option Command := commandOf (b.extractLsb' 8 8)
def argumentIn (b : Word) : Nat := (b.extractLsb' 0 8).toNat

/-- R153: the address a request acts at: the pointer's, or its own. -/
def State.target (s : State) (op : Op) (a : Word) : Nat :=
  match op with
  | .readNext | .writeNext => (State.pointer s (spaceOf a)).toNat
  | _ => addressOf a

/-! ### The tests of R151 -/

/-- Test 1: an op or command code that is undefined. -/
def opFails (op : Option Op) (b : Word) : Bool :=
  match op with
  | none => true
  | some .command => (commandIn b).isNone
  | _ => false

/-- R152: READ may not address a gap or an address above the end of its space. -/
def readRangeFails (sp : Space) (a : Nat) : Bool :=
  match sp with
  | .table => (groupOf a).isNone
  | .state => decide (stateEnd < a)

/-- R152: READ_NEXT may moreover not address an unused word. -/
def readNextRangeFails (sp : Space) (a : Nat) : Bool :=
  match sp with
  | .table => !usedWord a
  | .state => decide (stateEnd < a)

/-- R162: the data of a request-area word. -/
def requestAreaData (a : Nat) (b : Word) : Bool :=
  (a == reqCeilingHigh && decide (0xFF < b.toNat)) || (a == reqDuration && decide (255 < b.toNat))

/-- R152, R162: WRITE and WRITE_NEXT. -/
def writeRangeFails (sp : Space) (a : Nat) (b : Word) : Bool :=
  match sp with
  | .table => !usedWord a || requestAreaData a b
  | .state => true

/-- 09 Table 9-3: a command's argument. -/
def argumentFails (c : Command) (arg : Nat) : Bool :=
  match c with
  | .gateOut | .gateIn => decide (23 < arg)
  | .scheduleStart => decide (31 < arg)
  | _ => false

/-- Test 2: R150, R152, R153, R154, R155, R162. -/
def State.rangeFails (s : State) (op : Op) (f : Frame) : Bool :=
  let sp := spaceOf f.valueA
  let a := State.target s op f.valueA
  match op with
  | .read => !reservedClear f.valueA || readRangeFails sp a
  | .readNext => !reservedClear f.valueA || readNextRangeFails sp a
  | .write | .writeNext => !reservedClear f.valueA || writeRangeFails sp a f.valueB
  | .setPointer => !reservedClear f.valueA || decide (Space.last sp < a)
  | .openEdit => decide (groupCount ≤ f.valueB.toNat)
  | .check | .abandon => false
  | .capture => decide (1 < f.valueB.toNat)
  | .command =>
    match commandIn f.valueB with
    | some c => argumentFails c (argumentIn f.valueB)
    | none => false

/-- R159: the groups that LIMITS guards: GATE, CURVE and HEADTABLE. -/
def limitsGuards (n : Nat) : Bool := 2 ≤ n && n ≤ headGroup

/-- R159: whether a level forbids opening and checking a group. -/
def Lock.forbidsGroup (l : Lock) (n : Nat) : Bool :=
  match l with
  | .open => false
  | .limits => limitsGuards n
  | .full => true

/-- R159, R160: whether the level and the commission flag forbid a command. -/
def Mgu.forbidsCommand (u : Mgu) (c : Command) : Bool :=
  match u.lock with
  | .open => false
  | .limits => c == .lockLower && u.commission
  | .full => !(c == .engineHold || c == .lockRaise)

/-- Test 3: R156, R159, R160, R162. -/
def State.lockedFails (s : State) (op : Op) (f : Frame) : Bool :=
  match op with
  | .openEdit => Lock.forbidsGroup s.mgu.lock f.valueB.toNat
  | .check =>
    match s.mgu.buffer with
    | some e => Lock.forbidsGroup s.mgu.lock e.group
    | none => s.mgu.lock == .full
  | .write | .writeNext =>
    s.mgu.lock == .full && spaceOf f.valueA == .table && inRequestArea (State.target s op f.valueA)
  | .command =>
    match commandIn f.valueB with
    | some c => Mgu.forbidsCommand s.mgu c
    | none => false
  | .read | .readNext | .setPointer | .abandon | .capture => false

/-- Test 4: ENGINE_STEP and LOCK_LOWER need MAINT_ENABLE. -/
def State.maintFails (s : State) (op : Op) (f : Frame) : Bool :=
  op == .command && (commandIn f.valueB == some .engineStep || commandIn f.valueB == some .lockLower) &&
    !State.inputActive s .maintEnable

/-- R163: the commands refused while an operation is in flight. -/
def Command.busy : Command → Bool
  | .store | .reload | .commissionLock | .lockRaise | .lockLower => true
  | .engineHold | .engineRun | .engineStep | .engineRestart | .gateOut | .gateIn | .scheduleStart
  | .floodDeclare | .floodCancel | .curtailRequest => false

/-- Test 5: R155, R163. -/
def State.busyFails (s : State) (op : Op) (f : Frame) : Bool :=
  match op with
  | .openEdit => s.mgu.op.isSome || s.mgu.buffer.isSome
  | .check => s.mgu.op.isSome
  | .command =>
    match commandIn f.valueB with
    | some c => s.mgu.op.isSome && Command.busy c
    | none => false
  | .read | .readNext | .write | .writeNext | .setPointer | .abandon | .capture => false

/-- Test 6: R155. -/
def State.editFails (s : State) (op : Op) (f : Frame) : Bool :=
  match op with
  | .check | .abandon => s.mgu.buffer.isNone
  | .write | .writeNext =>
    let a := State.target s op f.valueA
    !inRequestArea a && s.mgu.buffer.map EditBuffer.group != groupOf a
  | .read | .readNext | .setPointer | .openEdit | .capture | .command => false

/-- R156, R157: what a CHECK finds at fault in the open group. -/
def State.fault (s : State) : Option (Nat × Reason) :=
  match s.mgu.buffer with
  | some e => validate e.group e.words s.table
  | none => none

/-- Test 7: R157. -/
def State.invalidFails (s : State) (op : Op) : Bool := op == .check && (State.fault s).isSome

/-- The status of the first test that fails. -/
def firstStatus : List (Bool × Status) → Option Status
  | [] => none
  | (fails, st) :: rest => if fails then some st else firstStatus rest

/-- R151: the tests of a request with a defined op, from test 2 on. -/
def State.laterTests (s : State) (op : Op) (f : Frame) : List (Bool × Status) :=
  [(State.rangeFails s op f, .nakRange), (State.lockedFails s op f, .nakLocked),
   (State.maintFails s op f, .nakMaint), (State.busyFails s op f, .nakBusy),
   (State.editFails s op f, .nakEdit), (State.invalidFails s op, .nakInvalid)]

/-- R151: the status a request fails with, if any test fails. -/
def State.refusalOf (s : State) (f : Frame) : Option Status :=
  if opFails (opOf f.id) f.valueB then some .nakOp
  else
    match opOf f.id with
    | some op => firstStatus (State.laterTests s op f)
    | none => some .nakOp

/-! ### Effects -/

/-- R160: one level up. -/
def Lock.raise : Lock → Lock
  | .open => .limits
  | .limits => .full
  | .full => .full

/-- R160: one level down, from LIMITS to OPEN. -/
def Lock.lower : Lock → Lock
  | .limits => .open
  | l => l

/-- The state with another lock level. -/
def State.setLock (s : State) (l : Lock) : State := { s with mgu := { s.mgu with lock := l } }

/-- R154: a command handed to its owner. -/
def State.command (s : State) (c : Command) (arg : Nat) : State :=
  match c with
  | .engineHold => State.engineHold s
  | .engineRun => State.engineRun s
  | .engineStep => State.engineStep s
  | .engineRestart => State.engineRestart s
  | .store => State.startStore s
  | .reload => State.startOp s .reload
  | .lockRaise => State.setLock s (Lock.raise s.mgu.lock)
  | .lockLower => State.setLock s (Lock.lower s.mgu.lock)
  | .commissionLock => State.startCommission s
  | .gateOut => if h : arg < 24 then State.gateOut s ⟨arg, h⟩ else s
  | .gateIn => if h : arg < 24 then State.gateIn s ⟨arg, h⟩ else s
  | .scheduleStart => State.startSchedule s arg
  | .floodDeclare => State.declareFlood s
  | .floodCancel => State.cancelFlood s
  | .curtailRequest => State.produceCurtail s (requestCeiling s.table) (requestDuration s.table)

/-- R152, R155, R162: the word a READ returns. -/
def State.readWord (s : State) (sp : Space) (a : Nat) : Word :=
  match sp with
  | .state => State.stateWord s a
  | .table =>
    match s.mgu.buffer with
    | some e =>
      if groupOf a = some e.group ∧ inRequestArea a = false then WordStore.read e.words a
      else WordStore.read s.table a
    | none => WordStore.read s.table a

/-- R155, R162: a word written: into the installed request area, or into the open group. -/
def State.writeWord (s : State) (a : Nat) (b : Word) : State :=
  if inRequestArea a then { s with tst := { s.tst with table := WordStore.write s.table a b } }
  else
    match s.mgu.buffer with
    | some e => { s with mgu := { s.mgu with buffer := some { e with words := WordStore.write e.words a b } } }
    | none => s

/-- R155: a group opened in the edit buffer. -/
def State.openEdit (s : State) (n : Nat) : State :=
  { s with mgu := { s.mgu with buffer := some ⟨n, copyGroup n s.table⟩ } }

/-- The edit buffer closed. -/
def State.closeEdit (s : State) : State := { s with mgu := { s.mgu with buffer := none } }

/-- R156: the open group installed and the buffer closed. -/
def State.checkInstall (s : State) : State :=
  match s.mgu.buffer with
  | some e => State.closeEdit (State.install s e.group e.words)
  | none => s

/-- The number of the open group, 0 when the buffer is CLOSED. -/
def State.openGroup (s : State) : Nat := (s.mgu.buffer.map EditBuffer.group).getD 0

/-- R172: the counters captured, and cleared when asked. -/
def State.capture (s : State) (clear : Bool) : State :=
  { s with ncu := { s.ncu with
      bank := s.ncu.counters, counters := if clear then {} else s.ncu.counters } }

/-- R153: the pointer of a space advanced by one. -/
def State.advance (s : State) (sp : Space) : State := State.setPointer s sp (State.pointer s sp + 1)

/-- R150 to R156: a request that passed every test: the state after it and the values of its OK reply
(09 Table 9-2). -/
def State.perform (s : State) (op : Op) (f : Frame) : State × Word × Word :=
  let sp := spaceOf f.valueA
  let a := State.target s op f.valueA
  match op with
  | .read => (s, f.valueA, State.readWord s sp a)
  | .readNext => (State.advance s sp, spaceAddress sp a, State.readWord s sp a)
  | .write => (State.writeWord s a f.valueB, spaceAddress sp a, f.valueB)
  | .writeNext => (State.advance (State.writeWord s a f.valueB) sp, spaceAddress sp a, f.valueB)
  | .setPointer => (State.setPointer s sp (f.valueA.extractLsb' 0 12), spaceAddress sp a, 0)
  | .openEdit => (State.openEdit s f.valueB.toNat, f.valueA, f.valueB)
  | .check =>
    (State.checkInstall s, BitVec.ofNat 16 (groupBase (State.openGroup s)), BitVec.ofNat 16 (State.openGroup s))
  | .abandon => (State.closeEdit s, f.valueA, BitVec.ofNat 16 (State.openGroup s))
  | .capture => (State.capture s (f.valueB == 1), f.valueA, f.valueB)
  | .command =>
    match commandIn f.valueB with
    | some c => (State.command s c (argumentIn f.valueB), f.valueA, f.valueB)
    | none => (s, f.valueA, f.valueB)

/-! ### Replies -/

/-- R150: a MGMT_REPLY. -/
def reply (st : Status) (a b : Word) (tag : Byte) : Frame :=
  goodFrame kindMgmtReply ⟨0, Status.code st, a, b, tag⟩

/-- R150, R157: the values of a NAK reply. -/
def State.nakValues (s : State) (st : Status) (f : Frame) : Word × Word :=
  match st, opOf f.id, State.fault s with
  | .nakInvalid, _, some (a, why) => (BitVec.ofNat 16 a, BitVec.ofNat 16 (Reason.code why))
  | _, some .readNext, _ => (spaceAddress (spaceOf f.valueA) (State.target s .readNext f.valueA), 0)
  | _, some .writeNext, _ => (spaceAddress (spaceOf f.valueA) (State.target s .writeNext f.valueA), 0)
  | _, _, _ => (f.valueA, 0)

/-- R150, R151: a good MGMT_REQ carried out as one act, with the reply that takes its place. -/
def State.manage (s : State) (f : Frame) : State × Frame :=
  match State.refusalOf s f, opOf f.id with
  | some st, _ => (s, reply st (State.nakValues s st f).1 (State.nakValues s st f).2 f.tag)
  | none, some op =>
    let r := State.perform s op f
    (r.1, reply .ok r.2.1 r.2.2 f.tag)
  | none, none => (s, reply .nakOp f.valueA 0 f.tag)

/-- R11: the reply to a bad-check frame in the MANAGEMENT slot. -/
def nakCheck (f : Frame) : Frame := reply .nakCheck 0 0 f.tag

end Sys2Proof.Machine
end

