-- ==== Sys2Proof/Machine/Ring.lean ====
section
/-! DEFINITION. The Ring Port Unit (01): the classification and disposition of every frame taken at ring-in,
the cycle marker, the RPU states, and ring loss. A frame is disposed of as the RPU classifies it, whichever
command of the table brings it (log 5). -/

namespace Sys2Proof.Machine

/-- R6: the frame that leaves at ring-out for the frame taken. -/
def State.emit (s : State) (f : Frame) : State := { s with rpu := { s.rpu with ringOut := some f } }

/-! ### The slot table (R4, R5) -/

/-- The entry of a slot table at a position. -/
def SlotTable.entry (x : SlotTable) (p : Nat) : Word := x.entries.getD p 0

/-- R5: whether a MANAGEMENT entry lies within S. -/
def SlotTable.hasManagement (x : SlotTable) : Bool :=
  (x.entries.take x.count).any (fun e => entryRole e == .management)

/-- R4, R5: the role served at a position within S. An entry 0 whose undefined code is read as UNUSED serves so too
(log 19, the model's choice). -/
def SlotTable.role (x : SlotTable) (p : Nat) : Role :=
  if p = 0 ∧ entryRole (SlotTable.entry x 0) = .unused ∧ SlotTable.hasManagement x = false then .management
  else entryRole (SlotTable.entry x p)

/-! ### Disposition by slot role (01 section 1.4) -/

/-- R7: a frame in a place that is no COMMAND slot: a SETPOINT leaves as a blank IDLE frame, a good one
counting MISROUTED; any other frame passes. -/
def State.passFrame (s : State) (f : Frame) : State :=
  if f.kind = kindSetpoint then State.emit (State.countIf s (Frame.good f) .misrouted) blankIdle
  else State.emit s f

/-- R8: the dispatch command a frame is to the gate of its slot. -/
def dispatchCommand (g : GateIx) (f : Frame) : Option DispatchCommand :=
  if Frame.good f ∧ f.kind = kindSetpoint ∧ f.id.toNat = g.val then some ⟨f.valueA, urgentFlag f.flags, f.tag⟩
  else none

/-- R8: a good SETPOINT that names another gate. -/
def misroutedFor (g : GateIx) (f : Frame) : Bool :=
  Frame.good f && f.kind == kindSetpoint && f.id.toNat != g.val

/-- R8: a frame in the COMMAND slot of gate `g`. -/
def State.commandSlot (s : State) (g : GateIx) (f : Frame) : State :=
  let r := State.select (State.countIf s (misroutedFor g f) .misrouted) g (dispatchCommand g f)
  State.emit r.1 r.2

/-- R9: whether a TELEMETRY binding admits a POSITION frame of gate `id`. -/
def admitsGate (binding id : Nat) : Bool := binding == 0xFF || binding == id

/-- R9: whether a TELEMETRY binding admits a STAGE frame of gauge `id`. -/
def admitsGauge (binding id : Nat) : Bool := binding == 0xFF || binding == 0x80 + id

/-- R9: what the ADU takes from a frame in a TELEMETRY slot with the given binding. -/
def State.tap (s : State) (binding : Nat) (f : Frame) : State :=
  if Frame.good f = false then s
  else if f.kind = kindPosition then
    if h : f.id.toNat < 24 then
      if admitsGate binding f.id.toNat then State.takePosition s ⟨f.id.toNat, h⟩ f.valueA f.valueB else s
    else s
  else if f.kind = kindStage then
    if h : f.id.toNat < 8 then
      if admitsGauge binding f.id.toNat then
        State.takeStage s ⟨f.id.toNat, h⟩ f.valueA (f.flags.getLsbD 0)
      else s
    else s
  else s

/-- R10: a frame in the HEARTBEAT slot. -/
def State.heartbeatSlot (s : State) (f : Frame) : State :=
  let s := if Frame.good f ∧ f.kind = kindHeartbeat then State.takeHeartbeat s (f.valueA.extractLsb' 0 4) else s
  State.passFrame s f

/-- R12, R170: a frame in the NOTICE slot. -/
def State.noticeSlot (s : State) (f : Frame) : State :=
  match s.ncu.queue with
  | n :: _ =>
    if Frame.good f ∧ f.kind = kindIdle then
      State.emit { s with ncu := Ncu.emit s.ncu } (Notice.frame n)
    else State.passFrame s f
  | [] => State.passFrame s f

/-- R11: a frame in the MANAGEMENT slot. -/
def State.managementSlot (s : State) (f : Frame) : State :=
  if Frame.good f = false then State.emit s (nakCheck f)
  else if f.kind = kindMgmtReq then
    let r := State.manage s f
    State.emit r.1 r.2
  else State.passFrame s f

/-- R8 to R13: a frame in the slot of position `p` of the open cycle. -/
def State.slotFrame (s : State) (x : SlotTable) (p : Nat) (f : Frame) : State :=
  match SlotTable.role x p with
  | .command =>
    match boundGate (SlotTable.entry x p) with
    | some g => State.commandSlot s g f
    | none => State.emit (State.countIf s (Frame.good f && f.kind == kindSetpoint) .misrouted) blankIdle
  | .telemetry => State.passFrame (State.tap s (entryBinding (SlotTable.entry x p)) f) f
  | .management => State.managementSlot s f
  | .notice => State.noticeSlot s f
  | .heartbeat => State.heartbeatSlot s f
  | .unused => State.passFrame s f

/-- R3, R14: a non-marker frame taken while a cycle is open. -/
def State.runFrame (s : State) (x : SlotTable) (f : Frame) : State :=
  let p := s.rpu.slotPos
  let s := { s with rpu := { s.rpu with slotPos := p + 1 } }
  if p < x.count then State.slotFrame s x p f
  else State.passFrame (State.count s .excessFrames) f

/-! ### The cycle marker (R2, R15, R17) -/

/-- R15: the COMMAND gates of the positions from `p` on that no frame reached, in rising order of position (log 29). -/
def SlotTable.unreached (x : SlotTable) (p : Nat) : List GateIx :=
  (List.range' p (x.count - p)).filterMap (fun e =>
    if SlotTable.role x e = .command then boundGate (SlotTable.entry x e) else none)

/-- R15: the open cycle closed, short or full. -/
def State.closeCycle (s : State) : State :=
  match s.rpu.active with
  | some x =>
    if s.rpu.slotPos < x.count then
      (SlotTable.unreached x s.rpu.slotPos).foldl State.slotNotReached (State.count s .shortCycles)
    else s
  | none => s

/-- R17: the RING notice of the marker that ends a loss. -/
def State.endLoss (s : State) : State :=
  if s.rpu.state = .ringLost then State.notify s (.ring s.rpu.gap) else s

/-- R2, R4, R19: the cycle that a marker opens. -/
def State.openCycle (s : State) (cycle : BitVec 32) : State :=
  { s with rpu := { s.rpu with
      state := .run, cycleNumber := some cycle, slotPos := 0, active := some (installedSlots s.table), gap := 0 } }

/-- R34: the marker event as the ADU takes it, at once or late (log 7). -/
def State.markAges (s : State) (late : Bool) : State :=
  if late then { s with handed := { s.handed with ages := true } } else State.ageGauges s

/-- R85: the marker event as the SCU takes it. -/
def State.markInterval (s : State) : State :=
  let n := s.scu.cycleCount + 1
  { s with
    scu := { s.scu with cycleCount := n },
    handed := { s.handed with boundary := n == s.scu.intervalLength } }

/-- R145: the marker event as the SPU takes it: the count rises, and its comparison is due. -/
def State.markWindow (s : State) : State :=
  { s with
    spu := { s.spu with window := satAdd 65535 s.spu.window 1 }, handed := { s.handed with window := true } }

/-- R128: the marker event as the SQE takes it: the dwell count rises, and its evaluation is due. -/
def State.markDwell (s : State) : State :=
  { s with
    sqe := { s.sqe with dwell := satAdd 255 s.sqe.dwell 1 }, handed := { s.handed with evaluation := true } }

/-- R2: the marker event handed to the blocks that count ring cycles. -/
def State.markerEvent (s : State) (late : Bool) : State :=
  State.markDwell (State.markWindow (State.markInterval (State.markAges s late)))

/-- R2, R15, R17, R19: a good CYCLE marker taken outside LOAD. Acts still owed for the marker before are
taken first (log 8). -/
def State.takeMarker (s : State) (f : Frame) (late : Bool) : State :=
  let s := State.closeCycle (State.settle s)
  State.emit (State.markerEvent (State.openCycle (State.endLoss s) (Frame.cycle f)) late) f

/-! ### Any frame (R1, R7, R18, R19) -/

/-- R19: a frame in LOAD: nothing is counted. -/
def loadFrame (f : Frame) : Frame := if f.kind = kindSetpoint then blankIdle else f

/-- R1: a frame taken at ring-in. -/
def State.ringArrival (s : State) (f : Frame) (late : Bool) : State :=
  if s.rpu.state = .load then State.emit s (loadFrame f)
  else if Frame.isMarker f then State.takeMarker s f late
  else
    let s := State.countIf (State.takeAges s) (!Frame.good f) .badCheck
    match s.rpu.active with
    | some x => State.runFrame s x f
    | none => State.passFrame s f

/-- R16: the marker gap count has reached the ring-loss limit in RUN or SYNC. An open cycle is abandoned without a
count; the slot position, which the spec does not name here, is kept as it stood (log 25). -/
def State.ringLoss (s : State) : State :=
  State.count { s with rpu := { s.rpu with state := .ringLost, active := none } } .ringLosses

end Sys2Proof.Machine
end

