-- ==== Sys2Proof/Machine/Tick.lean ====
section
/-! DEFINITION. The local tick of 1 ms (00 section 5.2): what the part does when no command waits (log 2). Every count
of the tick is raised and then compared with its limit, and every panel input is sampled once. A command of the table
may take one count's part ahead of the rest (RING_LOSS, SILENCE_EXPIRY, TAKEN_TIMEOUT, BEACON_DUE, PANEL_INPUT_CHANGE);
the tick that follows does not take that part again. -/

namespace Sys2Proof.Machine

/-- Both ports, up first (log 17). -/
def bothPorts : List Port := [.up, .down]

/-- The counts of the tick, the RPU's first, then port by port, and within a port the silence count before the TAKEN
count (R110, R113), where the spec gives no order: a port that goes DOWN at a tick has no message left whose TAKEN
count could expire at it. All of this order is the model's choice (log 17). -/
def tickParts : List TickPart :=
  .gap :: bothPorts.flatMap (fun p => [.silence p, .taken p, .beacon p])

/-- The samples of the tick, in the order of 08 Table 8-2 (R147; log 17). -/
def sampleParts : List TickPart := allInputs.map .sample

/-- One count raised by one: R16 (the gap count is not kept in LOAD, R19), R104 and R106 on a present port, R111 while
an outstanding message has left its port, and R147 by a sample, which may also clear it. -/
def State.raise (s : State) (x : TickPart) : State :=
  match x with
  | .gap =>
    if s.rpu.state = .load then s else { s with rpu := { s.rpu with gap := satAdd 65535 s.rpu.gap 1 } }
  | .silence p =>
    let r := State.port s p
    if r.state = .absent then s else State.setPort s p { r with silence := satAdd 65535 r.silence 1 }
  | .taken p =>
    let r := State.port s p
    if LinkPort.outstandingLeft r then State.setPort s p { r with takenCount := r.takenCount + 1 } else s
  | .beacon p =>
    let r := State.port s p
    if r.state = .absent then s else State.setPort s p { r with beaconTimer := r.beaconTimer + 1 }
  | .sample i => State.sampleInput s i

/-- Whether a count has reached its limit, and what is compared is in a state to act on it. -/
def State.expired (s : State) (x : TickPart) : Bool :=
  match x with
  | .gap => decide (s.rpu.state = .run ∨ s.rpu.state = .sync) && decide (ringLossLimit s.table ≤ s.rpu.gap)
  | .silence p => decide ((State.port s p).state = .up) && decide (silenceLimit s.table ≤ (State.port s p).silence)
  | .taken p =>
    LinkPort.outstandingLeft (State.port s p) && decide (takenTimeoutLimit s.table ≤ (State.port s p).takenCount)
  | .beacon p => decide ((State.port s p).state ≠ .absent) && decide (100 ≤ (State.port s p).beaconTimer)
  | .sample i => State.inputChanges s i

/-- What follows when a count has reached its limit: R16, R110, R113, R106, R147. -/
def State.expire (s : State) (x : TickPart) : State :=
  match x with
  | .gap => State.ringLoss s
  | .silence p => State.portDown s p
  | .taken p => State.takenExpiry s p
  | .beacon p => State.beaconDue s p
  | .sample i => State.takeInput s i

/-- One count's part of a tick: it rises, and then it is compared. -/
def State.tickPart (s : State) (x : TickPart) : State :=
  let s := State.raise s x
  if State.expired s x then State.expire s x else s

/-- One count's part of a tick, unless a command has taken it already. -/
def State.tickOnce (s : State) (x : TickPart) : State :=
  if s.handed.ticked.contains x then s else State.tickPart s x

/-- A count's part of the tick in progress taken ahead of the rest, and marked, so that it is taken no second time. -/
def State.takeAhead (s : State) (x : TickPart) : State :=
  if s.handed.ticked.contains x then s
  else
    let s := State.tickPart s x
    { s with handed := { s.handed with ticked := s.handed.ticked ++ [x] } }

/-- A count's part of the tick in progress taken ahead of the rest, on command, when that part brings about the event
the command names; otherwise the command changes nothing (log 1). -/
def State.tickAhead (s : State) (x : TickPart) : State :=
  if State.expired (State.raise s x) x then State.takeAhead s x else s

/-- R147: the level at an input's pin from now on. The one sample that the tick in progress takes of it is taken at once,
or stays with the rest of the tick (log 10); while RESET_N is asserted there is none (R148). -/
def State.driveInput (s : State) (i : PanelInput) (level sampled : Bool) : State :=
  let s := State.setPanel s i { State.panel s i with pin := level }
  if sampled && !s.tst.resetAsserted then State.takeAhead s (.sample i) else s

/-- The tick is over: no count has been raised for the next one. -/
def State.endTick (s : State) : State := { s with handed := { s.handed with ticked := [] } }

/-- One tick: what the last marker left owing, every count with its comparison, a turn of each transmitter (R105), and
the samples of the panel inputs (R147). -/
def State.tick (s : State) : State :=
  let s := tickParts.foldl State.tickOnce (State.settle s)
  State.endTick (sampleParts.foldl State.tickOnce (bothPorts.foldl State.transmit s))

end Sys2Proof.Machine
end

