-- ==== Sys2Proof/Machine/FrameCommands.lean ====
section
/-! DEFINITION. The meanings of the frames of the ring. Each is the arrival of its frame, which the RPU disposes of
by its position, role and check (log 5). -/

namespace Sys2Proof.Machine

/-- COMMAND_SLOT_FRAME: R8, R67. -/
def execCommandSlotFrame (f : Frame) (s : State) : Host.Outcome State Fault Refusal :=
  .next (State.ringArrival s f false)

/-- POSITION: R9, R23. -/
def execPosition (f : FrameFields) (s : State) : Host.Outcome State Fault Refusal :=
  .next (State.ringArrival s (goodFrame kindPosition f) false)

/-- STAGE: R9, R33. -/
def execStage (f : FrameFields) (s : State) : Host.Outcome State Fault Refusal :=
  .next (State.ringArrival s (goodFrame kindStage f) false)

/-- HEARTBEAT: R10, R143, R144. -/
def execHeartbeat (f : FrameFields) (s : State) : Host.Outcome State Fault Refusal :=
  .next (State.ringArrival s (goodFrame kindHeartbeat f) false)

/-- NOTICE_SLOT: R12, R170. -/
def execNoticeSlot (f : FrameFields) (s : State) : Host.Outcome State Fault Refusal :=
  .next (State.ringArrival s (goodFrame kindIdle f) false)

/-- EXCESS_FRAME: R14. -/
def execExcessFrame (f : Frame) (s : State) : Host.Outcome State Fault Refusal :=
  .next (State.ringArrival s f false)

/-- MISROUTED: R7, R8. -/
def execMisrouted (f : FrameFields) (s : State) : Host.Outcome State Fault Refusal :=
  .next (State.ringArrival s (goodFrame kindSetpoint f) false)

/-- BAD_CHECK_FRAME: R1. -/
def execBadCheckFrame (f : Frame) (s : State) : Host.Outcome State Fault Refusal :=
  .next (State.ringArrival s f false)

/-- UNTAPPED_FRAME: R9 to R13. -/
def execUntappedFrame (f : Frame) (s : State) : Host.Outcome State Fault Refusal :=
  .next (State.ringArrival s f false)

/-- FRAME_OUTSIDE_CYCLE: R18. -/
def execFrameOutsideCycle (f : Frame) (s : State) : Host.Outcome State Fault Refusal :=
  .next (State.ringArrival s f false)

/-- FRAME_IN_LOAD: R19. -/
def execFrameInLoad (f : Frame) (s : State) : Host.Outcome State Fault Refusal :=
  .next (State.ringArrival s f false)

end Sys2Proof.Machine
end

