-- ==== Sys2Proof/Machine/LinkCommands.lean ====
section
/-! DEFINITION. The meanings of the panel inputs and of the cascade links' commands. -/

namespace Sys2Proof.Machine

/-- PANEL_INPUT_CHANGE: R147, at its tick (logs 2 and 10). -/
def execPanelInputChange (input : PanelInput) (level sampled : Bool) (s : State) :
    Host.Outcome State Fault Refusal :=
  .next (State.driveInput s input level sampled)

/-- BEACON_DUE: R106, at its tick (log 2). -/
def execBeaconDue (p : Port) (s : State) : Host.Outcome State Fault Refusal := .next (State.tickAhead s (.beacon p))

/-- LINK_TRANSMIT: R105. -/
def execLinkTransmit (p : Port) (s : State) : Host.Outcome State Fault Refusal := .next (State.transmit s p)

/-- LINK_BYTE_TIMEOUT: R107. -/
def execLinkByteTimeout (p : Port) (gathered : Nat) (s : State) : Host.Outcome State Fault Refusal :=
  .next (State.byteTimeout s p gathered)

/-- BEACON: R109. -/
def execBeacon (p : Port) (m : LinkFields) (s : State) : Host.Outcome State Fault Refusal :=
  .next (State.linkArrival s p (goodMsg msgBeacon m))

/-- TAKEN: R112. -/
def execTaken (p : Port) (m : LinkFields) (s : State) : Host.Outcome State Fault Refusal :=
  .next (State.linkArrival s p (goodMsg msgTaken m))

/-- RELEASE, on the up port: R118. -/
def execRelease (m : LinkFields) (s : State) : Host.Outcome State Fault Refusal :=
  .next (State.linkArrival s .up (goodMsg msgRelease m))

/-- CURTAIL, on the down port: R117. -/
def execCurtail (m : LinkFields) (s : State) : Host.Outcome State Fault Refusal :=
  .next (State.linkArrival s .down (goodMsg msgCurtail m))

/-- WRONG_DIRECTION_MESSAGE: R109. -/
def execWrongDirectionMessage (p : Port) (kind : Byte) (m : LinkFields) (s : State) : Host.Outcome State Fault Refusal :=
  .next (State.linkArrival s p (goodMsg kind m))

/-- SILENCE_EXPIRY: R110, at its tick (log 2). -/
def execSilenceExpiry (p : Port) (s : State) : Host.Outcome State Fault Refusal :=
  .next (State.tickAhead s (.silence p))

/-- TAKEN_TIMEOUT: R113, at its tick (log 2). -/
def execTakenTimeout (p : Port) (s : State) : Host.Outcome State Fault Refusal := .next (State.tickAhead s (.taken p))

/-- BAD_CHECK_MESSAGE: R107. -/
def execBadCheckMessage (p : Port) (m : LinkMsg) (s : State) : Host.Outcome State Fault Refusal :=
  .next (State.linkArrival s p m)

/-- MISWIRED_MESSAGE: R108. -/
def execMiswiredMessage (p : Port) (m : LinkMsg) (s : State) : Host.Outcome State Fault Refusal :=
  .next (State.linkArrival s p m)

end Sys2Proof.Machine
end

