-- ==== Sys2Proof/Machine/ManagementCommands.lean ====
section
/-! DEFINITION. The meanings of the management commands: the arrival of a good MGMT_REQ COMMAND frame with the
command code of 11 Table 11-4. -/

namespace Sys2Proof.Machine

/-- ENGINE_HOLD: R134. -/
def execEngineHold (q : CommandRequest) (s : State) : Host.Outcome State Fault Refusal :=
  .next (State.ringArrival s (commandFrame 0 q) false)

/-- ENGINE_RUN: R135. -/
def execEngineRun (q : CommandRequest) (s : State) : Host.Outcome State Fault Refusal :=
  .next (State.ringArrival s (commandFrame 1 q) false)

/-- ENGINE_STEP: R136. -/
def execEngineStep (q : CommandRequest) (s : State) : Host.Outcome State Fault Refusal :=
  .next (State.ringArrival s (commandFrame 2 q) false)

/-- ENGINE_RESTART: R137. -/
def execEngineRestart (q : CommandRequest) (s : State) : Host.Outcome State Fault Refusal :=
  .next (State.ringArrival s (commandFrame 3 q) false)

/-- STORE: R164. -/
def execStore (q : CommandRequest) (s : State) : Host.Outcome State Fault Refusal :=
  .next (State.ringArrival s (commandFrame 4 q) false)

/-- RELOAD: R165. -/
def execReload (q : CommandRequest) (s : State) : Host.Outcome State Fault Refusal :=
  .next (State.ringArrival s (commandFrame 5 q) false)

/-- LOCK_RAISE: R160. -/
def execLockRaise (q : CommandRequest) (s : State) : Host.Outcome State Fault Refusal :=
  .next (State.ringArrival s (commandFrame 6 q) false)

/-- LOCK_LOWER: R160. -/
def execLockLower (q : CommandRequest) (s : State) : Host.Outcome State Fault Refusal :=
  .next (State.ringArrival s (commandFrame 7 q) false)

/-- COMMISSION_LOCK: R161. -/
def execCommissionLock (q : CommandRequest) (s : State) : Host.Outcome State Fault Refusal :=
  .next (State.ringArrival s (commandFrame 8 q) false)

/-- GATE_OUT: R28. -/
def execGateOut (q : CommandRequest) (s : State) : Host.Outcome State Fault Refusal :=
  .next (State.ringArrival s (commandFrame 9 q) false)

/-- GATE_IN: R29. -/
def execGateIn (q : CommandRequest) (s : State) : Host.Outcome State Fault Refusal :=
  .next (State.ringArrival s (commandFrame 10 q) false)

/-- SCHEDULE_START: R92. -/
def execScheduleStart (q : CommandRequest) (s : State) : Host.Outcome State Fault Refusal :=
  .next (State.ringArrival s (commandFrame 11 q) false)

/-- FLOOD_DECLARE: R97. -/
def execFloodDeclare (q : CommandRequest) (s : State) : Host.Outcome State Fault Refusal :=
  .next (State.ringArrival s (commandFrame 12 q) false)

/-- FLOOD_CANCEL: R97. -/
def execFloodCancel (q : CommandRequest) (s : State) : Host.Outcome State Fault Refusal :=
  .next (State.ringArrival s (commandFrame 13 q) false)

/-- CURTAIL_REQUEST: R114, R162. -/
def execCurtailRequest (q : CommandRequest) (s : State) : Host.Outcome State Fault Refusal :=
  .next (State.ringArrival s (commandFrame 14 q) false)

end Sys2Proof.Machine
end

