-- ==== Sys2Proof/Machine/MarkerCommands.lean ====
section
/-! DEFINITION. The meanings of the cycle marker and of the acts that come due at it. -/

namespace Sys2Proof.Machine

/-- CYCLE_MARKER: R2, R15, R17, R19. -/
def execCycleMarker (m : MarkerFields) (agesLate : Bool) (s : State) : Host.Outcome State Fault Refusal :=
  .next (State.ringArrival s (markerFrame m) agesLate)

/-- RING_LOSS: R16. The gap count's part of the tick in progress, taken before the rest of it (log 2). -/
def execRingLoss (s : State) : Host.Outcome State Fault Refusal := .next (State.tickAhead s .gap)

/-- INTERVAL_BOUNDARY: R86. -/
def execIntervalBoundary (s : State) : Host.Outcome State Fault Refusal := .next (State.takeBoundary s)

/-- RE_RATING: R87, R115. -/
def execReRating (s : State) : Host.Outcome State Fault Refusal := .next (State.takeReRating s)

/-- ARRIVAL_MATURITY: R121. -/
def execArrivalMaturity (s : State) : Host.Outcome State Fault Refusal := .next (State.takeMaturity s)

/-- SUPERVISION_WINDOW_EXPIRY: R145. -/
def execSupervisionWindowExpiry (s : State) : Host.Outcome State Fault Refusal := .next (State.windowTest s)

/-- ENGINE_EVALUATION: R128. -/
def execEngineEvaluation (s : State) : Host.Outcome State Fault Refusal := .next (State.evaluate s)

/-- ACTION_LIST_APPLY: R75. -/
def execActionListApply (s : State) : Host.Outcome State Fault Refusal := .next (State.takeActions s)

/-- CURTAIL_UP: R132, R114. -/
def execCurtailUp (s : State) : Host.Outcome State Fault Refusal := .next (State.takeCurtail s)

end Sys2Proof.Machine
end

