-- ==== Sys2Proof/Machine/PowerCommands.lean ====
section
/-! DEFINITION. The meanings of the power, reset and completion commands (R19, R149, R161, R164 to R166). -/

namespace Sys2Proof.Machine

/-- POWER_ON: R19; a power-on finds RESET_N released, and the start-up load begins (R166). -/
def execPowerOn (s : State) : Host.Outcome State Fault Refusal := .next (State.powerOn s false)

/-- RESET_N_ASSERT: R149. -/
def execResetNAssert (short : Bool) (s : State) : Host.Outcome State Fault Refusal :=
  .next (State.assertReset s short)

/-- RESET_N_RELEASE: R149, R166. -/
def execResetNRelease (s : State) : Host.Outcome State Fault Refusal := .next (State.releaseReset s)

/-- START_UP_LOAD_COMPLETE: R166. -/
def execStartUpLoadComplete (s : State) : Host.Outcome State Fault Refusal := .next (State.completeLoad s)

/-- STORE_COMPLETE: R164; whether the read-back matches is the operand (log 12). -/
def execStoreComplete (readBackOk : Bool) (s : State) : Host.Outcome State Fault Refusal :=
  .next (State.completeStore s readBackOk)

/-- RELOAD_COMPLETE: R165. -/
def execReloadComplete (order : List InstallTaker) (s : State) : Host.Outcome State Fault Refusal :=
  .next (State.completeReload s order)

/-- COMMISSION_LOCK_COMPLETE: R161. -/
def execCommissionLockComplete (readBackOk : Bool) (s : State) : Host.Outcome State Fault Refusal :=
  .next (State.completeCommission s readBackOk)

end Sys2Proof.Machine
end

