-- ==== Sys2Proof/Machine/RequestCommands.lean ====
section
/-! DEFINITION. The meanings of the management requests: the arrival of a good MGMT_REQ frame with the op code of
11 Table 11-4. -/

namespace Sys2Proof.Machine

/-- READ: R152, R155. -/
def execRead (q : Request) (s : State) : Host.Outcome State Fault Refusal :=
  .next (State.ringArrival s (requestFrame 1 q) false)

/-- READ_NEXT: R153. -/
def execReadNext (q : Request) (s : State) : Host.Outcome State Fault Refusal :=
  .next (State.ringArrival s (requestFrame 2 q) false)

/-- WRITE: R155, R162. -/
def execWrite (q : Request) (s : State) : Host.Outcome State Fault Refusal :=
  .next (State.ringArrival s (requestFrame 3 q) false)

/-- WRITE_NEXT: R153, R155, R162. -/
def execWriteNext (q : Request) (s : State) : Host.Outcome State Fault Refusal :=
  .next (State.ringArrival s (requestFrame 4 q) false)

/-- SET_POINTER: R153. -/
def execSetPointer (q : Request) (s : State) : Host.Outcome State Fault Refusal :=
  .next (State.ringArrival s (requestFrame 5 q) false)

/-- OPEN_EDIT: R155. -/
def execOpenEdit (q : Request) (s : State) : Host.Outcome State Fault Refusal :=
  .next (State.ringArrival s (requestFrame 6 q) false)

/-- CHECK: R156 to R158. -/
def execCheck (q : Request) (s : State) : Host.Outcome State Fault Refusal :=
  .next (State.ringArrival s (requestFrame 7 q) false)

/-- ABANDON: R155. -/
def execAbandon (q : Request) (s : State) : Host.Outcome State Fault Refusal :=
  .next (State.ringArrival s (requestFrame 8 q) false)

/-- CAPTURE: R172. -/
def execCapture (q : Request) (s : State) : Host.Outcome State Fault Refusal :=
  .next (State.ringArrival s (requestFrame 9 q) false)

/-- NAK_OP_REQUEST: R151, an op or a command code that is undefined. -/
def execNakOpRequest (op : Byte) (q : Request) (s : State) : Host.Outcome State Fault Refusal :=
  .next (State.ringArrival s (requestFrame op q) false)

end Sys2Proof.Machine
end

