-- ==== Sys2Proof/Machine/Dispatch.lean ====
section
/-! DEFINITION. Every command's meaning, one arm each (R1 to R174 by the definitions called). -/

namespace Sys2Proof.Machine

def exec (i : Instr) (s : State) : Host.Outcome State Fault Refusal :=
  match i with
  | .powerOn => Sys2Proof.Machine.execPowerOn s
  | .resetNAssert short => Sys2Proof.Machine.execResetNAssert short s
  | .resetNRelease => Sys2Proof.Machine.execResetNRelease s
  | .startUpLoadComplete => Sys2Proof.Machine.execStartUpLoadComplete s
  | .cycleMarker m agesLate => Sys2Proof.Machine.execCycleMarker m agesLate s
  | .ringLoss => Sys2Proof.Machine.execRingLoss s
  | .intervalBoundary => Sys2Proof.Machine.execIntervalBoundary s
  | .reRating => Sys2Proof.Machine.execReRating s
  | .arrivalMaturity => Sys2Proof.Machine.execArrivalMaturity s
  | .supervisionWindowExpiry => Sys2Proof.Machine.execSupervisionWindowExpiry s
  | .engineEvaluation => Sys2Proof.Machine.execEngineEvaluation s
  | .actionListApply => Sys2Proof.Machine.execActionListApply s
  | .curtailUp => Sys2Proof.Machine.execCurtailUp s
  | .commandSlotFrame f => Sys2Proof.Machine.execCommandSlotFrame f s
  | .position f => Sys2Proof.Machine.execPosition f s
  | .stage f => Sys2Proof.Machine.execStage f s
  | .heartbeat f => Sys2Proof.Machine.execHeartbeat f s
  | .noticeSlot f => Sys2Proof.Machine.execNoticeSlot f s
  | .excessFrame f => Sys2Proof.Machine.execExcessFrame f s
  | .misrouted f => Sys2Proof.Machine.execMisrouted f s
  | .badCheckFrame f => Sys2Proof.Machine.execBadCheckFrame f s
  | .untappedFrame f => Sys2Proof.Machine.execUntappedFrame f s
  | .frameOutsideCycle f => Sys2Proof.Machine.execFrameOutsideCycle f s
  | .frameInLoad f => Sys2Proof.Machine.execFrameInLoad f s
  | .read q => Sys2Proof.Machine.execRead q s
  | .readNext q => Sys2Proof.Machine.execReadNext q s
  | .write q => Sys2Proof.Machine.execWrite q s
  | .writeNext q => Sys2Proof.Machine.execWriteNext q s
  | .setPointer q => Sys2Proof.Machine.execSetPointer q s
  | .openEdit q => Sys2Proof.Machine.execOpenEdit q s
  | .check q => Sys2Proof.Machine.execCheck q s
  | .abandon q => Sys2Proof.Machine.execAbandon q s
  | .capture q => Sys2Proof.Machine.execCapture q s
  | .engineHold q => Sys2Proof.Machine.execEngineHold q s
  | .engineRun q => Sys2Proof.Machine.execEngineRun q s
  | .engineStep q => Sys2Proof.Machine.execEngineStep q s
  | .engineRestart q => Sys2Proof.Machine.execEngineRestart q s
  | .store q => Sys2Proof.Machine.execStore q s
  | .storeComplete readBackOk => Sys2Proof.Machine.execStoreComplete readBackOk s
  | .reload q => Sys2Proof.Machine.execReload q s
  | .reloadComplete order => Sys2Proof.Machine.execReloadComplete order s
  | .lockRaise q => Sys2Proof.Machine.execLockRaise q s
  | .lockLower q => Sys2Proof.Machine.execLockLower q s
  | .commissionLock q => Sys2Proof.Machine.execCommissionLock q s
  | .commissionLockComplete readBackOk => Sys2Proof.Machine.execCommissionLockComplete readBackOk s
  | .gateOut q => Sys2Proof.Machine.execGateOut q s
  | .gateIn q => Sys2Proof.Machine.execGateIn q s
  | .scheduleStart q => Sys2Proof.Machine.execScheduleStart q s
  | .floodDeclare q => Sys2Proof.Machine.execFloodDeclare q s
  | .floodCancel q => Sys2Proof.Machine.execFloodCancel q s
  | .curtailRequest q => Sys2Proof.Machine.execCurtailRequest q s
  | .panelInputChange input level sampled => Sys2Proof.Machine.execPanelInputChange input level sampled s
  | .beaconDue p => Sys2Proof.Machine.execBeaconDue p s
  | .linkTransmit p => Sys2Proof.Machine.execLinkTransmit p s
  | .linkByteTimeout p gathered => Sys2Proof.Machine.execLinkByteTimeout p gathered s
  | .beacon p m => Sys2Proof.Machine.execBeacon p m s
  | .taken p m => Sys2Proof.Machine.execTaken p m s
  | .release m => Sys2Proof.Machine.execRelease m s
  | .curtail m => Sys2Proof.Machine.execCurtail m s
  | .wrongDirectionMessage p kind m => Sys2Proof.Machine.execWrongDirectionMessage p kind m s
  | .silenceExpiry p => Sys2Proof.Machine.execSilenceExpiry p s
  | .takenTimeout p => Sys2Proof.Machine.execTakenTimeout p s
  | .nakOpRequest op q => Sys2Proof.Machine.execNakOpRequest op q s
  | .badCheckMessage p m => Sys2Proof.Machine.execBadCheckMessage p m s
  | .miswiredMessage p m => Sys2Proof.Machine.execMiswiredMessage p m s

end Sys2Proof.Machine
end

