-- ==== Sys2Proof/Safety.lean ====
section
/-! DEFINITION. What counts as a sound state of the part, and the words in which claims about it are made: the
place of a frame in the ring cycle, and the state after a frame has been answered. -/

namespace Sys2Proof.Safety

open Machine

/-! ### Invariants -/

/-- R167, R169: at most 16 notices, at most one CLAMP per gate, a lost count of at most 255. -/
def NoticesOk (u : Ncu) : Prop :=
  u.queue.length ≤ 16 ∧ (∀ g : GateIx, (u.queue.filter (Notice.isClampOf g)).length ≤ 1) ∧ u.lost ≤ 255

/-- R171: no counter above its maximum. -/
def CountersOk (c : Counters) : Prop :=
  (∀ i : Fin 18, c.station[i] ≤ 65535) ∧ (∀ g : GateIx, c.travel[g] ≤ 4294967295) ∧
    (∀ g : GateIx, c.reversals[g] ≤ 65535)

/-- R119: at most 64 entries, no two of which share a due interval. -/
def ArrivalsOk (l : List Arrival) : Prop := l.length ≤ 64 ∧ (l.map Arrival.due).Nodup

/-- R39: the sum of the recorded flows of the counted gates. -/
def countedFlow (a : Adu) : Nat :=
  (allGates.map (fun g => if GateState.counted a.gates[g].state then a.gates[g].flow else 0)).sum

/-- R39: the tally equals the sum of the counted gates' recorded flows, each at most 65535. -/
def TallyOk (a : Adu) : Prop := a.tally = countedFlow a ∧ ∀ g : GateIx, a.gates[g].flow ≤ 65535

/-- R94, R95: the upper bound of the inputs as they stand: in NORMAL the least of the ceiling, the ceiling of an active
curtailment and base + ramp_up; in FLOOD base + flood_ramp_up. -/
def upperNow (s : State) : Nat :=
  if s.scu.mode = .flood then s.adu.base + floodRampUp s.tst.table
  else if 0 < s.scu.curtailLeft then
    min s.scu.limits.ceiling (min s.scu.curtailCeiling (s.adu.base + s.scu.limits.rampUp))
  else min s.scu.limits.ceiling (s.adu.base + s.scu.limits.rampUp)

/-- R94, R95: the term that sets the upper bound, the first of CEILING, CURTAIL and RAMP_UP where several tie. -/
def upperTermNow (s : State) : Term :=
  if s.scu.mode = .flood then .floodRamp
  else if s.scu.limits.ceiling = upperNow s then .ceiling
  else if 0 < s.scu.curtailLeft ∧ s.scu.curtailCeiling = upperNow s then .curtail
  else .rampUp

/-- R94, R95: the lower bound of the inputs as they stand: the greater of the floor and base - ramp_down, and in FLOOD,
once the expected inflow is known, of the expected inflow less the storage allowance; no term is below 0. -/
def lowerNow (s : State) : Nat :=
  match s.scu.mode, s.clu.inflow with
  | .flood, some i =>
    max s.scu.limits.floor (max (i.discharge - s.scu.limits.storage) (s.adu.base - s.scu.limits.rampDown))
  | _, _ => max s.scu.limits.floor (s.adu.base - s.scu.limits.rampDown)

/-- R94, R95: the term that sets the lower bound, the first of FLOOR, INFLOW and RAMP_DOWN where several tie. -/
def lowerTermNow (s : State) : Term :=
  if s.scu.limits.floor = lowerNow s then .floor
  else
    match s.scu.mode, s.clu.inflow with
    | .flood, some i => if i.discharge - s.scu.limits.storage = lowerNow s then .inflow else .rampDown
    | _, _ => .rampDown

/-- R94 to R96: U, L and their binding terms are those of their inputs as they stand, a bound above 16,777,215 being
held at it. -/
def BoundsOk (s : State) : Prop :=
  s.scu.upper = min 16777215 (upperNow s) ∧ s.scu.upperTerm = upperTermNow s ∧
    s.scu.lower = min 16777215 (lowerNow s) ∧ s.scu.lowerTerm = lowerTermNow s

/-- R131: the ownership set is the set of the gates whose owner is ENGINE. -/
def OwnershipOk (s : State) : Prop :=
  s.sqe.owned = allGates.filter (fun g => (State.gate s g).owner == .engine)

/-- 09 section 9.2: the word stores keep their canonical form (log 21). -/
def StoresOk (s : State) : Prop :=
  WordStore.wf s.tst.table = true ∧ WordStore.wf s.tst.image.words = true ∧
    ∀ e, s.mgu.buffer = some e → WordStore.wf e.words = true

/-- 01 Table 1-3: a cycle is open in RUN and in no other state. -/
def CycleOk (r : Rpu) : Prop := r.active.isSome = true ↔ r.state = .run

/-- R161: the lock level is not below LIMITS while the commission flag is set. -/
def LockOk (u : Mgu) : Prop := u.commission = true → u.lock ≠ .open

/-- 02 Table 2-2, R41, R78: the block causes are non-empty in BLOCKED and empty elsewhere; the deviation count and
flag are clear outside SERVICE and STALE; the counts stay within their ranges. -/
def GateOk (r : Gate) : Prop :=
  ((r.causeFault = true ∨ r.causeOut = true) ↔ r.state = .blocked) ∧
    ((r.state ≠ .service ∧ r.state ≠ .stale) → r.devCount = 0 ∧ r.deviating = false) ∧
    r.holdCount ≤ 255 ∧ r.devCount ≤ 255

/-- Every gate's record is sound. -/
def GatesOk (a : Adu) : Prop := ∀ g : GateIx, GateOk a.gates[g]

/-- R104, R105, R111: an absent port holds no message; a message is deferred only behind one in the register; the
tag count is never 0; at most two TAKEN replies wait. -/
def PortOk (r : LinkPort) : Prop :=
  (r.state = .absent → r.register = none ∧ r.replies = []) ∧ (r.deferred.isSome = true → r.register.isSome = true) ∧
    r.tagCount ≠ 0 ∧ r.replies.length ≤ 2

/-- Both ports are sound. -/
def PortsOk (c : Clu) : Prop := PortOk c.up ∧ PortOk c.down

/-- R143 to R145: the run is 1 only while the dispatch station is not PRESENT, and then a last sequence is held;
the window count stays within its range. -/
def SupervisionOk (p : Spu) : Prop :=
  (p.run = true → p.sup ≠ .present ∧ p.lastSeq.isSome = true) ∧ p.window ≤ 65535

/-- R99, R101: the exit dwell count is 0 in NORMAL; both counts stay within their ranges. -/
def ModeOk (c : Scu) : Prop :=
  (c.mode = .normal → c.exitDwell = 0) ∧ c.exitDwell ≤ 255 ∧ c.curtailLeft ≤ 255

/-- A sound state. -/
structure Sound (s : State) : Prop where
  notices : NoticesOk s.ncu
  counters : CountersOk s.ncu.counters
  bank : CountersOk s.ncu.bank
  arrivals : ArrivalsOk s.clu.arrivals
  tally : TallyOk s.adu
  bounds : BoundsOk s
  ownership : OwnershipOk s
  stores : StoresOk s
  cycle : CycleOk s.rpu
  lock : LockOk s.mgu
  gates : GatesOk s.adu
  ports : PortsOk s.clu
  supervision : SupervisionOk s.spu
  mode : ModeOk s.scu

/-! ### The words of the claims -/

/-- A frame taken now would take a slot of the given role in the open cycle, whose table is `x`, and no gauge ages
are owed (log 7). -/
def AtSlot (s : State) (x : SlotTable) (role : Role) : Prop :=
  s.rpu.state = .run ∧ s.rpu.active = some x ∧ s.rpu.slotPos < x.count ∧
    SlotTable.role x s.rpu.slotPos = role ∧ s.handed.ages = false

/-- A frame taken now would take the COMMAND slot of gate `g`. -/
def AtCommand (s : State) (g : GateIx) : Prop :=
  ∃ x, AtSlot s x .command ∧ boundGate (SlotTable.entry x s.rpu.slotPos) = some g

/-- A frame taken now would take the MANAGEMENT slot. -/
def AtManagement (s : State) : Prop := ∃ x, AtSlot s x .management

/-- A frame taken now would take a TELEMETRY slot with the given binding: 0xFF for none, g for gate g, 0x80 + n for
gauge n (11 Table 11-7). -/
def AtTelemetry (s : State) (binding : Nat) : Prop :=
  ∃ x, AtSlot s x .telemetry ∧ entryBinding (SlotTable.entry x s.rpu.slotPos) = binding

/-- R63, R69: the frame that leaves a COMMAND slot is the ADU's: for a gate whose flow is counted a good SETPOINT that
names it and carries its admitted opening, and a blank IDLE frame for any other gate. -/
def AduFrameLeft (g : GateIx) (t : State) : Prop :=
  ∃ o, t.rpu.ringOut = some o ∧
    (GateState.counted (State.gate t g).state = true → Frame.good o = true ∧ o.kind = kindSetpoint ∧
      o.id.toNat = g.val ∧ o.valueA = BitVec.ofNat 16 (State.gate t g).admitted) ∧
    (GateState.counted (State.gate t g).state = false → o = blankIdle)

/-- The state after a slot frame that changed nothing but the RPU: it took its position, and `out` leaves (R3, R6). -/
def tookFrame (s : State) (out : Frame) : State :=
  { s with rpu := { s.rpu with slotPos := s.rpu.slotPos + 1, ringOut := some out } }

/-- The OK reply to a management command: values A and B as received (09 Table 9-2). -/
def commandReply (code : Byte) (q : CommandRequest) : Frame := reply .ok q.valueA (code ++ q.arg) q.tag

/-- R151, R159, R163: a management command that no lock forbids, with no operation in flight. -/
def Accepts (s : State) : Prop := AtManagement s ∧ s.mgu.lock ≠ .full ∧ s.mgu.op = none

/-- The state with gate `g`'s record changed. -/
def withGate (s : State) (g : GateIx) (f : Gate → Gate) : State := State.setGate s g (f (State.gate s g))

/-- Every gate but `g` has the record it had. -/
def OtherGatesKept (g : GateIx) (s t : State) : Prop := ∀ k, k ≠ g → State.gate t k = State.gate s k

/-- The blocks that no frame of a COMMAND slot reaches stand as they were. -/
def CommandFrameKept (s t : State) : Prop :=
  t.scu = s.scu ∧ t.clu = s.clu ∧ t.spu = s.spu ∧ t.mgu = s.mgu ∧ t.tst = s.tst ∧ t.handed = s.handed ∧
    t.adu.gauges = s.adu.gauges ∧ t.adu.base = s.adu.base ∧ t.freeCount = s.freeCount ∧ t.pending = s.pending

/-- The frame counts of a COMMAND slot (R1, R8): BAD_CHECK for a bad-check frame, MISROUTED for a good SETPOINT that
names another gate. -/
def slotCounts (s : State) (g : GateIx) (f : Frame) : State :=
  State.countIf (State.countIf s (!Frame.good f) .badCheck) (misroutedFor g f) .misrouted

/-- R68: a usable dispatch command for gate `g`. -/
def Usable (s : State) (g : GateIx) (f : Frame) : Prop :=
  s.spu.sup = .present ∧ Frame.good f = true ∧ f.kind = kindSetpoint ∧ f.id.toNat = g.val

/-- R68: no usable dispatch command for gate `g`. -/
def Silent (s : State) (g : GateIx) (f : Frame) : Prop := ¬ Usable s g f

/-- The state a reset leaves, RESET_N asserted or not (R19, R149): every block at its reset value; the image's words,
lock level and flag copy, the stored copy of the commission flag and the levels at the pins carried through. -/
def AtReset (asserted : Bool) (s t : State) : Prop :=
  t.rpu = State.reset.rpu ∧ t.adu = State.reset.adu ∧ t.scu = State.reset.scu ∧ t.clu = State.reset.clu ∧
    t.sqe = State.reset.sqe ∧ t.mgu = State.reset.mgu ∧ t.ncu = State.reset.ncu ∧ t.handed = State.reset.handed ∧
    t.spu.sup = .absent ∧ t.spu.lastSeq = none ∧ t.spu.run = false ∧ t.spu.window = 0 ∧
    (∀ i : Fin 8, t.spu.inputs[i] = { pin := s.spu.inputs[i].pin }) ∧
    t.tst.table = [] ∧ t.tst.storedFlag = s.tst.storedFlag ∧ t.tst.resetAsserted = asserted ∧
    t.tst.image.words = s.tst.image.words ∧ t.tst.image.lock = s.tst.image.lock ∧
    t.tst.image.commission = s.tst.image.commission ∧ t.pending = s.pending

/-- A MGMT_REPLY with a status, two values and a tag (R150). -/
def replyFrame (st : Byte) (a b : Word) (tag : Byte) : Frame := goodFrame kindMgmtReply ⟨0, st, a, b, tag⟩

/-- A NOTICE frame with a kind code, two values, a tag and flags (11 Table 11-3). -/
def noticeFrame (code a b tag : Nat) (flags : BitVec 4) : Frame :=
  goodFrame kindNotice ⟨flags, BitVec.ofNat 8 code, BitVec.ofNat 16 a, BitVec.ofNat 16 b, BitVec.ofNat 8 tag⟩

/-! ### The tests of a management request (R151) -/

/-- A management command as a request: op 10, with the command code above its argument in value B (11 section 11.2). -/
def asCommand (code : Byte) (q : CommandRequest) : Byte × Request := (10, ⟨q.flags, q.valueA, code ++ q.arg, q.tag⟩)

/-- The op byte and the fields of the request that a command of the table brings; none for the other commands. -/
def managementRequest (c : Instr) : Option (Byte × Request) :=
  match c with
  | .read q => some (1, q)
  | .readNext q => some (2, q)
  | .write q => some (3, q)
  | .writeNext q => some (4, q)
  | .setPointer q => some (5, q)
  | .openEdit q => some (6, q)
  | .check q => some (7, q)
  | .abandon q => some (8, q)
  | .capture q => some (9, q)
  | .engineHold q => some (asCommand 0 q)
  | .engineRun q => some (asCommand 1 q)
  | .engineStep q => some (asCommand 2 q)
  | .engineRestart q => some (asCommand 3 q)
  | .store q => some (asCommand 4 q)
  | .reload q => some (asCommand 5 q)
  | .lockRaise q => some (asCommand 6 q)
  | .lockLower q => some (asCommand 7 q)
  | .commissionLock q => some (asCommand 8 q)
  | .gateOut q => some (asCommand 9 q)
  | .gateIn q => some (asCommand 10 q)
  | .scheduleStart q => some (asCommand 11 q)
  | .floodDeclare q => some (asCommand 12 q)
  | .floodCancel q => some (asCommand 13 q)
  | .curtailRequest q => some (asCommand 14 q)
  | .nakOpRequest op q => some (op, q)
  | _ => none

/-- The command code and the argument in value B. -/
def requestCode (q : Request) : Nat := (q.valueB.extractLsb' 8 8).toNat
def requestArgument (q : Request) : Nat := (q.valueB.extractLsb' 0 8).toNat

/-- R150: whether a request is to the STATE space. -/
def toState (q : Request) : Prop := q.valueA.getLsbD 15 = true

/-- R150, R153: the address a request acts at: its own, or for READ_NEXT and WRITE_NEXT the pointer of its space. -/
def requestAddress (s : State) (op : Byte) (q : Request) : Nat :=
  if op = 2 ∨ op = 4 then (if q.valueA.getLsbD 15 then s.mgu.statePtr.toNat else s.mgu.tablePtr.toNat)
  else (q.valueA.extractLsb' 0 12).toNat

/-- Test 1 of R151: the op or the command code is undefined. -/
def OpFails (op : Byte) (q : Request) : Prop := op = 0 ∨ 10 < op.toNat ∨ (op = 10 ∧ 14 < requestCode q)

/-- Test 2 of R151 (R150, R152 to R155, R162): the reserved bits, the address, the data or the argument. -/
def RangeFails (s : State) (op : Byte) (q : Request) : Prop :=
  let a := requestAddress s op q
  (1 ≤ op.toNat ∧ op.toNat ≤ 5 ∧ q.valueA.extractLsb' 12 3 ≠ 0) ∨
  ((op = 1 ∨ op = 2 ∨ op = 5) ∧ toState q ∧ 0x41F < a) ∨
  (op = 1 ∧ ¬ toState q ∧ groupOf a = none) ∨
  ((op = 2 ∨ op = 3 ∨ op = 4) ∧ ¬ toState q ∧ usedWord a = false) ∨
  ((op = 3 ∨ op = 4) ∧ toState q) ∨
  ((op = 3 ∨ op = 4) ∧ (a = 0x74D ∨ a = 0x74F) ∧ 255 < q.valueB.toNat) ∨
  (op = 5 ∧ ¬ toState q ∧ 0x74F < a) ∨
  (op = 6 ∧ 76 < q.valueB.toNat) ∨ (op = 9 ∧ 1 < q.valueB.toNat) ∨
  (op = 10 ∧ (requestCode q = 9 ∨ requestCode q = 10) ∧ 23 < requestArgument q) ∨
  (op = 10 ∧ requestCode q = 11 ∧ 31 < requestArgument q)

/-- R159: LIMITS guards the GATE, CURVE and HEADTABLE groups, FULL every group. -/
def GroupLocked (l : Lock) (n : Nat) : Prop := l = .full ∨ (l = .limits ∧ 2 ≤ n ∧ n ≤ 42)

/-- Test 3 of R151 (R156, R159 to R162): the lock level. -/
def LockFails (s : State) (op : Byte) (q : Request) : Prop :=
  (op = 6 ∧ GroupLocked s.mgu.lock q.valueB.toNat) ∨
  (op = 7 ∧ ((∃ e, s.mgu.buffer = some e ∧ GroupLocked s.mgu.lock e.group) ∨
    (s.mgu.buffer = none ∧ s.mgu.lock = .full))) ∨
  ((op = 3 ∨ op = 4) ∧ s.mgu.lock = .full ∧ ¬ toState q ∧ 0x74D ≤ requestAddress s op q ∧
    requestAddress s op q ≤ 0x74F) ∨
  (op = 10 ∧ s.mgu.lock = .full ∧ requestCode q ≠ 0 ∧ requestCode q ≠ 6) ∨
  (op = 10 ∧ s.mgu.lock = .limits ∧ s.mgu.commission = true ∧ requestCode q = 7)

/-- Test 4 of R151: ENGINE_STEP and LOCK_LOWER without MAINT_ENABLE. -/
def MaintFails (s : State) (op : Byte) (q : Request) : Prop :=
  op = 10 ∧ (requestCode q = 2 ∨ requestCode q = 7) ∧ State.inputActive s .maintEnable = false

/-- Test 5 of R151 (R155, R163): an operation in flight, or for OPEN_EDIT a buffer that is open. -/
def BusyFails (s : State) (op : Byte) (q : Request) : Prop :=
  ((op = 6 ∨ op = 7 ∨ (op = 10 ∧ 4 ≤ requestCode q ∧ requestCode q ≤ 8)) ∧ s.mgu.op.isSome = true) ∨
  (op = 6 ∧ s.mgu.buffer.isSome = true)

/-- Test 6 of R151 (R155, R162): no buffer open, or open on another group than the word's. -/
def EditFails (s : State) (op : Byte) (q : Request) : Prop :=
  ((op = 7 ∨ op = 8) ∧ s.mgu.buffer = none) ∨
  ((op = 3 ∨ op = 4) ∧ ¬ (0x74D ≤ requestAddress s op q ∧ requestAddress s op q ≤ 0x74F) ∧
    ∀ e, s.mgu.buffer = some e → groupOf (requestAddress s op q) ≠ some e.group)

/-- Test 7 of R151 (R157): CHECK of a group at fault, at the word `a` and for the reason `why`. -/
def InvalidAt (s : State) (op : Byte) (a : Nat) (why : Reason) : Prop :=
  op = 7 ∧ ∃ e, s.mgu.buffer = some e ∧ validate e.group e.words s.tst.table = some (a, why)

/-! ### The STATE space (11 Table 11-8) -/

/-- The words of the STATE space at `n` addresses from `a` on. -/
def stateWords (s : State) (a n : Nat) : List Word := (List.range n).map (fun i => State.stateWord s (a + i))

/-- The words of a quantity in one word, and in two with the high word first (11). -/
def oneWord (n : Nat) : List Word := [BitVec.ofNat 16 n]
def twoWords (n : Nat) : List Word := [BitVec.ofNat 16 (n / 65536), BitVec.ofNat 16 n]

/-- A flag as a word. -/
def bitWord (b : Bool) : Word := if b then 1 else 0

/-- 11 Table 11-8: gate k's words. -/
def gateStateWords (r : Gate) : List Word :=
  [(match r.state with
    | .vacant => 0 | .acquire => 1 | .service => 2 | .stale => 3 | .blocked => 4 | .localControl => 5),
   bitWord r.causeFault + 2 * bitWord r.causeOut, BitVec.ofNat 16 r.admitted, BitVec.ofNat 16 r.flow] ++
  twoWords r.lastCycle.toNat ++
  [(match r.lastDir with | .none => 0 | .up => 1 | .down => 2),
   (match r.measured with | some m => BitVec.ofNat 16 m | none => 0xFFFF),
   (match r.drive with | some .ok => 0 | some .fault => 1 | some .localControl => 2 | none => 0xFFFF),
   BitVec.ofNat 16 r.holdCount, BitVec.ofNat 16 r.devCount + 0x8000 * bitWord r.deviating,
   (match r.owner with | .dispatch => 0 | .engine => 1 | .trip => 2 | .loss => 3) + 0x8000 * bitWord r.released,
   (match r.target with | none => 0xFFFF | some .closeUrgent => 0xFFFE | some (.set o) => BitVec.ofNat 16 o),
   r.lastTag.setWidth 16,
   (match r.refusal with | .none => 0 | .notService => 1 | .tripped => 2 | .engineOwned => 3), r.refused]

/-- 11 Table 11-8: gauge g's words. -/
def gaugeStateWords (r : Gauge) : List Word :=
  [BitVec.ofNat 16 (r.level.getD 0), bitWord r.level.isSome, BitVec.ofNat 16 r.age, BitVec.ofNat 16 r.bad]

/-- 11 Table 11-3: the binding codes. -/
def termWord (x : Term) : Word :=
  match x with
  | .ceiling => 1 | .rampUp => 2 | .curtail => 3 | .floodRamp => 4 | .floor => 5 | .rampDown => 6 | .inflow => 7

/-- 11 Table 11-8: the first 39 words at 0x1C0. -/
def scuStateWords (s : State) : List Word :=
  twoWords s.adu.tally ++ twoWords s.adu.base ++ twoWords s.scu.upper ++ [termWord s.scu.upperTerm] ++
  twoWords s.scu.lower ++ [termWord s.scu.lowerTerm, bitWord (s.scu.mode == .flood), bitWord s.scu.declared] ++
  oneWord s.scu.exitDwell ++ twoWords s.scu.intervalNumber.toNat ++ oneWord s.scu.cycleCount ++
  oneWord s.scu.intervalLength ++
  (match s.scu.cursor with
   | .none => ([0, 0, 0] : List Word)
   | .block n left => [1, BitVec.ofNat 16 n, BitVec.ofNat 16 left]
   | .holdingLast => [2, 0, 0]) ++
  [(match s.scu.source with | some n => BitVec.ofNat 16 n | none => 0xFFFF)] ++
  twoWords s.scu.limits.ceiling ++ twoWords s.scu.limits.floor ++ twoWords s.scu.limits.rampUp ++
  twoWords s.scu.limits.rampDown ++ twoWords s.scu.limits.storage ++ twoWords s.scu.curtailCeiling ++
  oneWord s.scu.curtailLeft ++
  (match s.clu.inflow with
   | some i => 1 :: twoWords i.discharge ++ [bitWord i.flood, i.source]
   | none => [0, 0, 0, 0, 0])

/-- 11 Table 11-8: a queue position's words. -/
def arrivalStateWords (e : Arrival) : List Word :=
  [e.received.setWidth 16, BitVec.ofNat 16 ((e.due - e.received).toNat % 256 * 256 + e.discharge / 65536 % 256),
   BitVec.ofNat 16 e.discharge, e.source]

/-- 11 Table 11-8: a link port's words; the message kinds are 1 RELEASE and 2 CURTAIL (11 Table 11-5). -/
def portStateWords (r : LinkPort) : List Word :=
  [(match r.state with | .down => 0 | .up => 1 | .absent => 2 : Word), bitWord r.miswired] ++
  (match r.register with
   | some o =>
     [(1 : Word), (match o.msg.kind with | .release => 1 | .curtail => 2 : Word), o.tag.setWidth 16] ++
       twoWords o.msg.value.toNat
   | none => ([0, 0, 0, 0, 0] : List Word)) ++
  [(match r.deferred with | some ⟨.release, _, _⟩ => 1 | some ⟨.curtail, _, _⟩ => 2 | none => 0 : Word)]

/-- 11 Table 11-8: the MGU's words. -/
def mguStateWords (u : Mgu) : List Word :=
  let opWord := fun (o : Option Operation) => (match o with
    | none => 0 | some .store => 1 | some .reload => 2 | some .commissionLock => 3 : Word)
  [(match u.lock with | .open => 0 | .limits => 1 | .full => 2), bitWord u.commission, bitWord u.buffer.isSome,
   (match u.buffer with | some e => BitVec.ofNat 16 e.group | none => 0), u.tablePtr.setWidth 16,
   u.statePtr.setWidth 16, opWord u.op,
   (match u.lastResult with | none => 0 | some (_, true) => 1 | some (_, false) => 2),
   opWord (u.lastResult.map Prod.fst)]

/-- R96: an SCU record that differs from another in U, L and their binding terms alone; what they are, `BoundsOk`
says. -/
def BoundsAlone (c d : Scu) : Prop :=
  d = { c with upper := d.upper, upperTerm := d.upperTerm, lower := d.lower, lowerTerm := d.lowerTerm }

/-- R171: the capture bank, and every counter but the station counters of a list, stand as they were. -/
def CountersKept (raised : List Counter) (u v : Ncu) : Prop :=
  v.bank = u.bank ∧ v.counters.travel = u.counters.travel ∧ v.counters.reversals = u.counters.reversals ∧
    ∀ c : Counter, c ∉ raised → v.counters.station[Counter.ix c] = u.counters.station[Counter.ix c]

/-! ### What is produced for a port -/

/-- R111: what producing a message for a port does to that port and the LINK counters; nothing else changes. -/
def ProducedTo (s : State) (p : Port) (m : Produced) (t : State) : Prop :=
  ((State.port s p).state ≠ .up → t = State.count s .linkTimeouts) ∧
  ((State.port s p).state = .up → (State.port s p).register = none →
    t = State.setPort s p { State.port s p with
      register := some ⟨m, (State.port s p).tagCount, .waiting⟩,
      tagCount := if (State.port s p).tagCount = 255 then 1 else (State.port s p).tagCount + 1, takenCount := 0 }) ∧
  ((State.port s p).state = .up → (State.port s p).register.isSome = true → (State.port s p).deferred = none →
    t = State.setPort s p { State.port s p with deferred := some m }) ∧
  ((State.port s p).state = .up → (State.port s p).register.isSome = true →
    (State.port s p).deferred.isSome = true →
    t = State.count (State.setPort s p { State.port s p with deferred := some m }) .linkSuperseded)

/-! ### The local tick -/

/-- The commands of a list taken one after another, each answering a next state. -/
def Runs : List Instr → State → State → Prop
  | [], s, t => t = s
  | c :: rest, s, t => ∃ u, exec c s = .next u ∧ Runs rest u t

/-- R34, R75, R86, R87, R121, R128, R132, R145 (log 8): every act still owed for the last marker taken, in the order of
the log: the boundary; a re-rating and a maturing for each boundary event; the window comparison; the evaluation; each
action list and each curtailment request handed on; and the increase of the gauge ages. Nothing is owed afterwards. -/
def Settled (s u : State) : Prop :=
  ∃ b v w : State, Runs [.intervalBoundary] s b ∧
    Runs (List.replicate b.handed.reRatings.length .reRating ++
      List.replicate b.handed.maturities.length .arrivalMaturity ++
      [.supervisionWindowExpiry, .engineEvaluation]) b v ∧
    Runs (List.replicate v.handed.actions.length .actionListApply ++
      List.replicate v.handed.curtails.length .curtailUp) v w ∧
    (∀ n : Fin 8, u.adu.gauges[n] =
      if s.handed.ages then { w.adu.gauges[n] with age := min 65535 (w.adu.gauges[n].age + 1) } else w.adu.gauges[n]) ∧
    u = { w with adu := { w.adu with gauges := u.adu.gauges }, handed := { ticked := s.handed.ticked } }

/-- R110: the silence count of a port, raised by one tick, takes it DOWN. -/
def silenceExpires (t : WordStore) (r : LinkPort) : Bool :=
  decide (r.state = .up) && decide (silenceLimit t ≤ min 65535 (r.silence + 1))

/-- R104, R110: a port after its silence count's part of a tick. -/
def silenceTicked (t : WordStore) (r : LinkPort) : LinkPort :=
  if r.state = .absent then r
  else if silenceExpires t r then
    { r with
      silence := min 65535 (r.silence + 1), state := .down, register := none, takenCount := 0, deferred := none,
      replies := [] }
  else { r with silence := min 65535 (r.silence + 1) }

/-- R113: the TAKEN count of a port, raised by one tick, gives its outstanding message up. -/
def takenExpires (t : WordStore) (r : LinkPort) : Bool :=
  match r.register with
  | some ⟨_, _, .left⟩ => decide (takenTimeoutLimit t ≤ r.takenCount + 1)
  | _ => false

/-- R111 to R113: a port after its TAKEN count's part of a tick; the count runs while an outstanding message has left.
-/
def takenTicked (t : WordStore) (r : LinkPort) : LinkPort :=
  match r.register with
  | some ⟨_, _, .left⟩ =>
    if takenExpires t r then
      (match r.deferred with
        | some d => { r with
            register := some ⟨d, r.tagCount, .waiting⟩, deferred := none,
            tagCount := if r.tagCount = 255 then 1 else r.tagCount + 1, takenCount := 0 }
        | none => { r with register := none, takenCount := 0 })
    else { r with takenCount := r.takenCount + 1 }
  | _ => r

/-- R106: a port after the part of a tick that its BEACONs take. -/
def beaconTicked (r : LinkPort) : LinkPort :=
  if r.state = .absent then r
  else if 100 ≤ r.beaconTimer + 1 then { r with beaconTimer := r.beaconTimer + 1 - 100, beaconDue := true }
  else { r with beaconTimer := r.beaconTimer + 1 }

/-- A port between its silence count's and its TAKEN count's part of a tick; `done` are the parts that commands have
taken ahead (log 2). -/
def silenceDone (t : WordStore) (done : List TickPart) (p : Port) (r : LinkPort) : LinkPort :=
  if done.contains (.silence p) then r else silenceTicked t r

/-- A port after every count of a tick. -/
def portTicked (t : WordStore) (done : List TickPart) (p : Port) (r : LinkPort) : LinkPort :=
  let r1 := silenceDone t done p r
  let r2 := if done.contains (.taken p) then r1 else takenTicked t r1
  if done.contains (.beacon p) then r2 else beaconTicked r2

/-- R110, R113: how many messages a port drops or gives up at a tick. -/
def portDrops (t : WordStore) (done : List TickPart) (p : Port) (r : LinkPort) : Nat :=
  (if !done.contains (.silence p) && silenceExpires t r then r.register.toList.length + r.deferred.toList.length
    else 0) +
  (if !done.contains (.taken p) && takenExpires t (silenceDone t done p r) then 1 else 0)

/-- R171: a counter of 16 bits increased by a number of events. -/
def raised (c n : Nat) : Nat := if n = 0 then c else min 65535 (c + n)

/-- R147: a panel input after one sample at the level of its pin: a fourth in succession at the other level changes the
filtered level. -/
def panelSampled (r : PanelLine) : PanelLine :=
  if r.pin = r.level then { r with count := 0 }
  else if r.count + 1 < 4 then { r with count := r.count + 1 }
  else { r with level := r.pin, count := 0 }

/-- R147, R148: a panel input after a tick begun in state `s`: sampled once, unless a command has taken that sample
already (log 2) or RESET_N is asserted. -/
def panelTicked (s : State) (i : PanelInput) : PanelLine :=
  if TickPart.sample i ∈ s.handed.ticked ∨ s.tst.resetAsserted = true then State.panel s i
  else panelSampled (State.panel s i)

/-- R147: an input's part of a tick: what PANEL_INPUT_CHANGE does that leaves its pin as it stands, but for the mark of
a sample taken ahead (log 2), which does not outlast the tick. -/
def InputTicked (i : PanelInput) (s t : State) : Prop :=
  ∃ v, exec (.panelInputChange i (State.panel s i).pin true) s = .next v ∧
    t = { v with handed := { v.handed with ticked := s.handed.ticked } }

/-- The parts of a tick that a list of inputs take, one after another. -/
def InputsTicked : List PanelInput → State → State → Prop
  | [], s, t => t = s
  | i :: rest, s, t => ∃ u, InputTicked i s u ∧ InputsTicked rest u t

/-- R147, R148: the most recent sample of an input, inactive while none has been taken since the reset (log 10): the
change count is 0 where it agreed with the filtered level. -/
def latestSample (r : PanelLine) : Bool := if r.count = 0 then r.level else !r.level

/-! ### Admissions, entry tests and installs as seen from outside -/

/-- R57 to R62: what an admission of gate `g` with the stages `x` counts and reports, the notice queue standing at `v`
before it: ADMITTED; for a result that differs from the request a CLAMP with the last stage that moved the value as its
reason (R59; log 24 where R54's remark says otherwise), the bound's term for UPPER and LOWER (R60), the request and the
result, and one count for each stage that moved the value (R61); the gate's travel, and a reversal of its last
direction. -/
def AdmissionReported (s t : State) (g : GateIx) (x : Stages) (v : Ncu) : Prop :=
  ∃ (rises : Bool) (reason : ClampReason) (w : Ncu),
    rises = decide ((State.gate s g).flow < flowAt s.tst.table g (State.head s) x.r2) ∧
    reason = (if x.out.result ≠ x.r2 then (if rises then .upper else .lower)
      else if x.r2 ≠ x.r1 then .travel else .rate) ∧
    w = (if x.out.result = x.r then v else Ncu.notify v (.clamp g ⟨reason,
      (match reason with
        | .upper => some s.scu.upperTerm
        | .lower => some s.scu.lowerTerm
        | _ => none), x.r, x.out.result⟩)) ∧
    t.ncu.queue = w.queue ∧ t.ncu.lost = w.lost ∧ t.ncu.bank = s.ncu.bank ∧
    State.counter t .admitted = min 65535 (State.counter s .admitted + 1) ∧
    State.counter t .clampRate = raised (State.counter s .clampRate)
      (if x.out.result ≠ x.r ∧ x.r1 ≠ x.r then 1 else 0) ∧
    State.counter t .clampTravel = raised (State.counter s .clampTravel)
      (if x.out.result ≠ x.r ∧ x.r2 ≠ x.r1 then 1 else 0) ∧
    State.counter t .clampCeiling = raised (State.counter s .clampCeiling)
      (if x.out.result ≠ x.r ∧ x.out.result ≠ x.r2 ∧ rises = true then 1 else 0) ∧
    State.counter t .clampFloor = raised (State.counter s .clampFloor)
      (if x.out.result ≠ x.r ∧ x.out.result ≠ x.r2 ∧ rises = false then 1 else 0) ∧
    (∀ k : GateIx, t.ncu.counters.travel[k] =
      if k = g then min 4294967295 (s.ncu.counters.travel[g] + distance x.out.result (State.gate s g).admitted)
      else s.ncu.counters.travel[k]) ∧
    (∀ k : GateIx, t.ncu.counters.reversals[k] =
      if k = g ∧ ((State.gate s g).lastDir = .down ∧ (State.gate s g).admitted < x.out.result ∨
          (State.gate s g).lastDir = .up ∧ x.out.result < (State.gate s g).admitted)
      then min 65535 (s.ncu.counters.reversals[k] + 1) else s.ncu.counters.reversals[k])

/-- R34: the level of gauge `n`, when it is fresh by a table's stale limit. -/
def freshIn (s : State) (t : WordStore) (n : Nat) : Option Nat :=
  if h : n < 8 then
    (match s.adu.gauges[n].level with
      | some level => if s.adu.gauges[n].age < staleLimit t then some level else none
      | none => none)
  else none

/-- R98: the cause an entry to FLOOD would have by a table: the first part of the entry condition that holds. -/
def entryCause (s : State) (t : WordStore) : Option ModeCause :=
  if State.inputActive s .floodAlarm then some .alarm
  else if s.scu.declared then some .declare
  else
    match freshIn s t (headwaterGauge t) with
    | some level => if floodStage t ≤ level then some .stage else none
    | none => none

/-- R98: the mode and the exit dwell count that an entry test by a table leaves, the headwater gauge's staleness read by
the table's stale limit (log 34). -/
def EntryTested (s : State) (t : WordStore) (c : Scu) : Prop :=
  (entryCause s t = none → c.mode = s.scu.mode ∧ c.exitDwell = s.scu.exitDwell) ∧
    (entryCause s t ≠ none → c.mode = .flood ∧ c.exitDwell = 0)

/-- R98: the notices an entry test by a table queues: MODE, for an entry from NORMAL. -/
def entryNotices (s : State) (t : WordStore) : List Notice :=
  if s.scu.mode = .normal then ((entryCause s t).map (Notice.mode .flood)).toList else []

/-- R32: the GATE_STATE notices that an install of every GATE group by a table queues (R30, R31). -/
def gateNotices (s : State) (t : WordStore) : List Notice :=
  allGates.filterMap (fun g =>
    if gateKind t g = .absent then
      if (State.gate s g).state = .vacant then none else some (.gateState g .vacant)
    else if (State.gate s g).state = .vacant then some (.gateState g .acquire) else none)

/-- R123: a port after a LINK install by a table. What becomes of the replies and the TAKEN count
of a port that becomes present is the model's choice (logs 20 and 32). -/
def PortInstalled (t : WordStore) (p : Port) (r r' : LinkPort) : Prop :=
  (r.state = .absent → portFitted t p = true → r' = { r with
    state := .down, silence := 0, miswired := false, register := none, takenCount := 0, deferred := none,
    replies := [], beaconTimer := 0, beaconDue := false }) ∧
  ((r.state = .absent ↔ portFitted t p = false) → r' = r) ∧
  (r.state ≠ .absent → portFitted t p = false →
    r'.state = .absent ∧ r'.register = none ∧ r'.deferred = none ∧ r'.replies = [] ∧ r'.line = r.line ∧
    r'.tagCount = r.tagCount)

/-- R123: the LINK notices of a LINK install by a table, the up port's first (log 17). -/
def linkNotices (s : State) (t : WordStore) : List Notice :=
  ([Port.up, Port.down].filter (fun p => (State.port s p).state == .up && !portFitted t p)).map
    (fun p => .link p .down)

/-- R123: how many messages a LINK install by a table drops. -/
def linkDrops (s : State) (t : WordStore) : Nat :=
  (([Port.up, Port.down].filter (fun p => (State.port s p).state != .absent && !portFitted t p)).map
    (fun p => (State.port s p).register.toList.length + (State.port s p).deferred.toList.length)).sum

/-! ### Conditions and installed fields -/

/-- R147, R148: a panel input read as active: the filtered level, once the start-up load has completed. -/
def LineActive (s : State) (i : PanelInput) : Prop := s.rpu.state ≠ .load ∧ (State.panel s i).level = true

/-- 07 Table 7-2: the condition of a code (11) is true, with its index and value. An index that CHECK refuses is read as
log 19 says. -/
def ConditionTrue (s : State) (code index value : Nat) : Prop :=
  (code = 0 ∧ ∃ u : UnitIx, index = u.val ∧ LineActive s (.trip u)) ∨
  (code = 1 ∧ ∃ u : UnitIx, index = u.val ∧ ¬ LineActive s (.trip u)) ∨
  (code = 2 ∧ s.scu.mode = .flood) ∨
  (code = 3 ∧ s.scu.mode = .normal) ∨
  (code = 4 ∧ ∃ level, freshIn s s.tst.table index = some level ∧ value ≤ level) ∨
  (code = 5 ∧ ∃ level, freshIn s s.tst.table index = some level ∧ level < value) ∨
  (code = 6 ∧ (s.spu.sup = .absent ∨ s.spu.sup = .lost)) ∨
  (code = 7 ∧ s.spu.sup = .present) ∨
  (code = 8 ∧ (index = 0 ∧ s.clu.up.state ≠ .up ∨ index ≠ 0 ∧ s.clu.down.state ≠ .up)) ∨
  (code = 9 ∧ value ≤ s.sqe.dwell) ∨
  code = 10

/-- 11 Table 11-7: the fields of STATION. -/
def StationFields (t : WordStore) : Prop :=
  slotCount t = WordStore.nat t 0x000 ∧ cyclesPerInterval t = WordStore.nat t 0x001 ∧
  ringLossLimit t = WordStore.nat t 0x002 ∧ supervisionWindow t = WordStore.nat t 0x003 ∧
  stationIndex t = WordStore.nat t 0x004 ∧ headwaterGauge t = WordStore.nat t 0x005 ∧
  tailwaterGauge t = WordStore.nat t 0x006 ∧ staleLimit t = WordStore.nat t 0x007 ∧
  fallbackHead t = WordStore.nat t 0x008 ∧
  (∀ n, startBlock t = some n ↔ WordStore.nat t 0x009 = n ∧ n ≤ 31) ∧
  (defaultLimits t).ceiling = WordStore.nat t 0x00A * 65536 + WordStore.nat t 0x00B ∧
  (defaultLimits t).floor = WordStore.nat t 0x00C * 65536 + WordStore.nat t 0x00D ∧
  (defaultLimits t).rampUp = WordStore.nat t 0x00E * 65536 + WordStore.nat t 0x00F ∧
  (defaultLimits t).rampDown = WordStore.nat t 0x010 * 65536 + WordStore.nat t 0x011 ∧
  (defaultLimits t).storage = WordStore.nat t 0x012 * 65536 + WordStore.nat t 0x013 ∧
  floodStage t = WordStore.nat t 0x014 ∧ hysteresis t = WordStore.nat t 0x015 ∧
  exitDwellLimit t = WordStore.nat t 0x016 ∧
  floodRampUp t = WordStore.nat t 0x017 * 65536 + WordStore.nat t 0x018

/-- 11 Table 11-7: the fields of GATE k, whose words are `w`. -/
def GateFields (t : WordStore) (k : GateIx) (w : Nat → Nat) : Prop :=
  (gateKind t k = .wicket ↔ w 0 = 1) ∧ (gateKind t k = .spillway ↔ w 0 = 2) ∧ (gateKind t k = .outlet ↔ w 0 = 3) ∧
  gateUnit t k = w 1 ∧ travelMin t k = w 2 ∧ travelMax t k = w 3 ∧ gateRate t k = w 4 ∧ gateCurve t k = w 5 ∧
  holdLimit t k = w 6 ∧ (driveTo t k = true ↔ w 7 = 1) ∧ safeOpening t k = w 8 ∧ devLimit t k = w 9 ∧
  devTime t k = w 10

/-- 11 Table 11-7: the fields of SCHEDULE n, whose words are `w`. -/
def ScheduleFields (t : WordStore) (n : Nat) (w : Nat → Nat) : Prop :=
  blockDuration t n = w 0 ∧
  blockLimits t n = { ceiling := w 1, floor := w 2, rampUp := w 3, rampDown := w 4, storage := w 5 } ∧
  ∀ m, blockNext t n = some m ↔ w 6 = m ∧ m ≤ 31

/-- 11 Table 11-7: state `s` of ENGINE, whose words are `w`: dwell, levels, CURTAIL_UP, and the action of each gate. -/
def EngineStateFields (t : WordStore) (s : Nat) (w : Nat → Nat) : Prop :=
  minDwell t s = w 0 ∧ levelA t s = (w 1).testBit 0 ∧ levelB t s = (w 1).testBit 1 ∧
  (w 2 = 65535 → curtailUpOf t s = none) ∧
  (w 2 ≠ 65535 → curtailUpOf t s = some (w 3 * 65536 + w 4, w 2)) ∧
  ∀ g : GateIx, ((∀ a, a < w 5 → a < 24 → w (6 + 2 * a) ≠ g.val) → ActionList.find (actionList t s) g = none) ∧
    ∀ a, a < w 5 → a < 24 → w (6 + 2 * a) = g.val → (∀ c, c < a → w (6 + 2 * c) ≠ g.val) →
      ActionList.find (actionList t s) g =
        some (if w (7 + 2 * a) = 65535 then .closeUrgent else .set (w (7 + 2 * a)))

/-- 11 Table 11-7: the fields of LINK. -/
def LinkFieldsAt (t : WordStore) : Prop :=
  (portFitted t .up = true ↔ WordStore.nat t 0x740 = 1) ∧ (portFitted t .down = true ↔ WordStore.nat t 0x741 = 1) ∧
  linkLag t = WordStore.nat t 0x742 ∧ silenceLimit t = WordStore.nat t 0x743 ∧
  takenTimeoutLimit t = WordStore.nat t 0x744 ∧
  requestCeiling t = WordStore.nat t 0x74D * 65536 + WordStore.nat t 0x74E ∧
  requestDuration t = WordStore.nat t 0x74F

/-- 11 Table 11-7: the words at which the installed fields of STATION, GATE, SCHEDULE, ENGINE and LINK are read. A word
that CHECK refuses is read as log 19 says. -/
def FieldsAt (t : WordStore) : Prop :=
  StationFields t ∧ (∀ k : GateIx, GateFields t k (fun o => WordStore.nat t (0x080 + 16 * k.val + o))) ∧
  (∀ n, n < 32 → ScheduleFields t n (fun o => WordStore.nat t (0x440 + 8 * n + o))) ∧
  (stateCount t = WordStore.nat t 0x540 ∧ initialState t = WordStore.nat t 0x541 ∧
    transitionCount t = WordStore.nat t 0x542) ∧
  (∀ n, n < 24 → (transitionAt t n).src = WordStore.nat t (0x543 + 3 * n) / 256 ∧
    (transitionAt t n).dst = WordStore.nat t (0x543 + 3 * n) % 256) ∧
  (∀ n, n < 8 → EngineStateFields t n (fun o => WordStore.nat t (0x58B + 54 * n + o))) ∧ LinkFieldsAt t

/-- R5, 11 Table 11-7: the role a slot table gives position `p`: MANAGEMENT for an UNUSED slot 0 when no entry within S
has that role, and otherwise the role of the entry's code in bits 15..8. A code that CHECK refuses is read as UNUSED
(log 19). -/
def roleServed (x : SlotTable) (p : Nat) : Role :=
  let code := fun e => (SlotTable.entry x e).toNat / 256
  if p = 0 ∧ (code 0 = 0 ∨ 5 < code 0) ∧ (∀ e, e < x.count → code e ≠ 3) then .management
  else if code p = 1 then .command
  else if code p = 2 then .telemetry
  else if code p = 3 then .management
  else if code p = 4 then .notice
  else if code p = 5 then .heartbeat
  else .unused

/-! ### Validation (R157, 09 Table 9-5) -/

/-- The number of entries within S, for a group whose first word gives S. -/
def entriesWithin (station : WordStore) : Nat := min 32 (WordStore.nat station 0x000)

/-- 11 Table 11-7: whether two SLOTS entries have one role, of those that only one entry within S may have. -/
def SameSingleRole (slots : WordStore) (c e : Nat) : Prop :=
  3 ≤ WordStore.nat slots (0x040 + e) / 256 ∧ WordStore.nat slots (0x040 + e) / 256 ≤ 5 ∧
    WordStore.nat slots (0x040 + c) / 256 = WordStore.nat slots (0x040 + e) / 256

/-- 11 Table 11-7: entry `e` is a COMMAND entry bound to gate `g`. -/
def BoundAt (slots : WordStore) (e : Nat) (g : GateIx) : Prop := WordStore.nat slots (0x040 + e) = 256 + g.val

/-- 09 section 9.5: gate `g` is bound to exactly one COMMAND entry within the first `n`. -/
def BoundOnce (slots : WordStore) (n : Nat) (g : GateIx) : Prop :=
  ∃ e, e < n ∧ BoundAt slots e g ∧ ∀ c, c < n → BoundAt slots c g → c = e

/-- 09 section 9.5: the installed groups are consistent: within S at most one MANAGEMENT, one NOTICE and one HEARTBEAT
entry, and every present gate bound to exactly one COMMAND entry. -/
def BindingsOk (t : WordStore) : Prop :=
  (∀ e, e < entriesWithin t → ∀ c, c < e → ¬ SameSingleRole t c e) ∧
    ∀ g : GateIx, gateKind t g ≠ .absent → BoundOnce t (entriesWithin t) g

/-- STATION: a fault at word `a`, with its reason. The last two concern the installed SLOTS; they are reported at the
group's base (log 15). -/
def StationFault (b installed : WordStore) (a : Nat) (why : Reason) : Prop :=
  (why = .fieldRange ∧
    (a = 0x000 ∧ ¬ (1 ≤ WordStore.nat b a ∧ WordStore.nat b a ≤ 32) ∨
      a = 0x001 ∧ WordStore.nat b a < 100 ∨
      a = 0x002 ∧ ¬ (5 ≤ WordStore.nat b a ∧ WordStore.nat b a ≤ 250) ∨
      a = 0x003 ∧ ¬ (10 ≤ WordStore.nat b a ∧ WordStore.nat b a ≤ 2550) ∨
      a = 0x004 ∧ 7 < WordStore.nat b a ∨
      a = 0x007 ∧ WordStore.nat b a = 0 ∨
      (a = 0x00A ∨ a = 0x00C ∨ a = 0x00E ∨ a = 0x010 ∨ a = 0x012 ∨ a = 0x017) ∧ 0xFF < WordStore.nat b a ∨
      a = 0x016 ∧ ¬ (1 ≤ WordStore.nat b a ∧ WordStore.nat b a ≤ 255))) ∨
  (why = .index ∧
    ((a = 0x005 ∨ a = 0x006) ∧ 7 < WordStore.nat b a ∨
      a = 0x009 ∧ 31 < WordStore.nat b a ∧ WordStore.nat b a ≠ 0xFFFF)) ∨
  (why = .order ∧ a = 0x00C ∧ WordStore.long b 0x00A < WordStore.long b 0x00C) ∨
  (why = .roleDuplicate ∧ a = 0x000 ∧
    ∃ e, e < entriesWithin b ∧ ∃ c, c < e ∧ SameSingleRole installed c e) ∨
  (why = .binding ∧ a = 0x000 ∧
    ∃ g : GateIx, gateKind installed g ≠ .absent ∧ ¬ BoundOnce installed (entriesWithin b) g)

/-- SLOTS: a fault at word `a`, with its reason: a repeated role or binding at the later entry, a present gate bound to
no entry at the group's base. -/
def SlotsFault (b installed : WordStore) (a : Nat) (why : Reason) : Prop :=
  (why = .fieldRange ∧ ∃ e, e < 32 ∧ a = 0x040 + e ∧
    (5 < WordStore.nat b a / 256 ∨
      WordStore.nat b a / 256 = 1 ∧ 23 < WordStore.nat b a % 256 ∨
      WordStore.nat b a / 256 = 2 ∧ 23 < WordStore.nat b a % 256 ∧
        ¬ (0x80 ≤ WordStore.nat b a % 256 ∧ WordStore.nat b a % 256 ≤ 0x87) ∧ WordStore.nat b a % 256 ≠ 0xFF)) ∨
  (∃ e, e < entriesWithin installed ∧ a = 0x040 + e ∧ ∃ c, c < e ∧
    (why = .roleDuplicate ∧ SameSingleRole b c e ∨
      why = .binding ∧ ∃ g : GateIx, gateKind installed g ≠ .absent ∧ BoundAt b c g ∧ BoundAt b e g)) ∨
  (why = .binding ∧ a = 0x040 ∧ ∃ g : GateIx, gateKind installed g ≠ .absent ∧
    ∀ e, e < entriesWithin installed → ¬ BoundAt b e g)

/-- GATE k: a fault at word `a`, with its reason. An undefined kind is the only fault looked for beside those of a
present kind; kind ABSENT has none. -/
def GateFault (b installed : WordStore) (k : GateIx) (a : Nat) (why : Reason) : Prop :=
  ∃ w : Nat → Nat, (∀ o, w o = WordStore.nat b (0x080 + 16 * k.val + o)) ∧ w 0 ≠ 0 ∧ ∃ o, o < 11 ∧
    a = 0x080 + 16 * k.val + o ∧
    ((why = .fieldRange ∧
        (o = 0 ∧ 3 < w 0 ∨ o = 1 ∧ w 0 ≠ 1 ∧ w 1 ≠ 0xFFFF ∨ (o = 2 ∨ o = 3 ∨ o = 9) ∧ 10000 < w o ∨
          o = 4 ∧ ¬ (1 ≤ w 4 ∧ w 4 ≤ 10000) ∨ o = 5 ∧ 15 < w 5 ∨ o = 6 ∧ 255 < w 6 ∨ o = 7 ∧ 1 < w 7 ∨
          o = 8 ∧ w 7 = 1 ∧ ¬ (w 2 ≤ w 8 ∧ w 8 ≤ w 3) ∨ o = 10 ∧ ¬ (1 ≤ w 10 ∧ w 10 ≤ 255))) ∨
      (why = .index ∧ o = 1 ∧ w 0 = 1 ∧ 5 < w 1) ∨
      (why = .order ∧ o = 3 ∧ w 3 < w 2) ∨
      (why = .curveRef ∧ o = 5 ∧ w 5 ≤ 15 ∧ WordStore.nat installed (0x200 + 32 * w 5) < 2) ∨
      (why = .binding ∧ o = 0 ∧ ¬ BoundOnce installed (entriesWithin installed) k))

/-- CURVE j: a fault at word `a`, with its reason; points at and beyond the count are not tested. -/
def CurveFault (b : WordStore) (j a : Nat) (why : Reason) : Prop :=
  ∃ (n : Nat) (x q : Nat → Nat), n = WordStore.nat b (0x200 + 32 * j) ∧
    (∀ p, x p = WordStore.nat b (0x201 + 32 * j + 2 * p)) ∧ (∀ p, q p = WordStore.nat b (0x202 + 32 * j + 2 * p)) ∧
    ((why = .count ∧ a = 0x200 + 32 * j ∧ ¬ (2 ≤ n ∧ n ≤ 12)) ∨
      ∃ p, p < n ∧ p < 12 ∧
        ((a = 0x201 + 32 * j + 2 * p ∧
            (why = .ends ∧ (p = 0 ∧ x p ≠ 0 ∨ p + 1 = n ∧ x p ≠ 10000) ∨ why = .fieldRange ∧ 10000 < x p ∨
              why = .order ∧ 1 ≤ p ∧ x p ≤ x (p - 1))) ∨
          (a = 0x202 + 32 * j + 2 * p ∧ why = .order ∧ 1 ≤ p ∧ q p < q (p - 1))))

/-- HEADTABLE: a fault at word `a`, with its reason; points from the first whose factor word is 0 on are not tested
(R37). -/
def HeadFault (b : WordStore) (a : Nat) (why : Reason) : Prop :=
  (why = .count ∧ a = 0x401 ∧ WordStore.nat b 0x401 = 0) ∨
  ∃ p, p < 8 ∧ (∀ c, c ≤ p → WordStore.nat b (0x401 + 2 * c) ≠ 0) ∧
    ((why = .order ∧ 1 ≤ p ∧
        (a = 0x400 + 2 * p ∧ WordStore.nat b a ≤ WordStore.nat b (a - 2) ∨
          a = 0x401 + 2 * p ∧ WordStore.nat b a < WordStore.nat b (a - 2))) ∨
      (why = .fieldRange ∧ a = 0x401 + 2 * p ∧ 16383 < WordStore.nat b a))

/-- SCHEDULE n: a fault at word `a`, with its reason. -/
def ScheduleFault (b : WordStore) (n a : Nat) (why : Reason) : Prop :=
  (why = .fieldRange ∧ a = 0x440 + 8 * n ∧ WordStore.nat b a = 0) ∨
  (why = .order ∧ a = 0x442 + 8 * n ∧ WordStore.nat b (0x441 + 8 * n) < WordStore.nat b a) ∨
  (why = .index ∧ a = 0x446 + 8 * n ∧ 31 < WordStore.nat b a ∧ WordStore.nat b a ≠ 0xFFFF)

/-- ENGINE: a fault of transition `n` at word `a`, with its reason. -/
def TransitionFault (b : WordStore) (n a : Nat) (why : Reason) : Prop :=
  ∃ base w0 w1 w2, base = 0x543 + 3 * n ∧ w0 = WordStore.nat b base ∧ w1 = WordStore.nat b (base + 1) ∧
    w2 = WordStore.nat b (base + 2) ∧
    ((why = .index ∧
        (a = base ∧ (WordStore.nat b 0x540 ≤ w0 / 256 ∨ WordStore.nat b 0x540 ≤ w0 % 256) ∨
          a = base + 1 ∧ ((w1 / 256 = 0 ∨ w1 / 256 = 1) ∧ 5 < w1 % 256 ∨
            (w1 / 256 = 4 ∨ w1 / 256 = 5) ∧ 7 < w1 % 256 ∨ w1 / 256 = 8 ∧ 1 < w1 % 256))) ∨
      (why = .fieldRange ∧ (a = base + 1 ∧ 10 < w1 / 256 ∨ a = base + 2 ∧ w1 / 256 = 9 ∧ 255 < w2)))

/-- ENGINE: a fault of state `s` at word `a`, with its reason. -/
def StateFault (b : WordStore) (s a : Nat) (why : Reason) : Prop :=
  ∃ (base : Nat) (w : Nat → Nat), base = 0x58B + 54 * s ∧ (∀ o, w o = WordStore.nat b (base + o)) ∧
    ((why = .fieldRange ∧
        (a = base ∧ 255 < w 0 ∨ a = base + 1 ∧ 3 < w 1 ∨ a = base + 2 ∧ w 2 ≠ 0xFFFF ∧ 255 < w 2 ∨
          a = base + 3 ∧ w 2 ≠ 0xFFFF ∧ 255 < w 3)) ∨
      (why = .count ∧ a = base + 5 ∧ 24 < w 5) ∨
      ∃ n, n < w 5 ∧ n < 24 ∧
        ((why = .fieldRange ∧
            (a = base + 6 + 2 * n ∧ 23 < w (6 + 2 * n) ∨
              a = base + 7 + 2 * n ∧ 10000 < w (7 + 2 * n) ∧ w (7 + 2 * n) ≠ 0xFFFF)) ∨
          (why = .duplicateAction ∧ a = base + 6 + 2 * n ∧ ∃ c, c < n ∧ w (6 + 2 * c) = w (6 + 2 * n))))

/-- ENGINE: a fault at word `a`, with its reason; a bad initial state is reported at the group's base. -/
def EngineFault (b : WordStore) (a : Nat) (why : Reason) : Prop :=
  (why = .count ∧
    (a = 0x540 ∧ ¬ (1 ≤ WordStore.nat b a ∧ WordStore.nat b a ≤ 8) ∨ a = 0x542 ∧ 24 < WordStore.nat b a)) ∨
  (why = .index ∧ a = 0x540 ∧ WordStore.nat b 0x540 ≤ WordStore.nat b 0x541) ∨
  (∃ n, n < WordStore.nat b 0x542 ∧ n < 24 ∧ TransitionFault b n a why) ∨
  (∃ s, s < WordStore.nat b 0x540 ∧ s < 8 ∧ StateFault b s a why)

/-- LINK: a fault at word `a`; the request area is not tested. -/
def LinkFault (b : WordStore) (a : Nat) (why : Reason) : Prop :=
  why = .fieldRange ∧
    ((a = 0x740 ∨ a = 0x741) ∧ 1 < WordStore.nat b a ∨ a = 0x742 ∧ 255 < WordStore.nat b a ∨
      a = 0x743 ∧ ¬ (200 ≤ WordStore.nat b a ∧ WordStore.nat b a ≤ 5000) ∨
      a = 0x744 ∧ ¬ (50 ≤ WordStore.nat b a ∧ WordStore.nat b a ≤ 2000))

/-- 09 Tables 9-4 and 9-5: the words `b` of group `n` are at fault at word `a` for the reason `why`, against the
installed groups. -/
def FaultAt (n : Nat) (b installed : WordStore) (a : Nat) (why : Reason) : Prop :=
  (n = 0 ∧ StationFault b installed a why) ∨ (n = 1 ∧ SlotsFault b installed a why) ∨
  (∃ k : GateIx, n = 2 + k.val ∧ GateFault b installed k a why) ∨
  (∃ j, j < 16 ∧ n = 26 + j ∧ CurveFault b j a why) ∨ (n = 42 ∧ HeadFault b a why) ∨
  (∃ m, m < 32 ∧ n = 43 + m ∧ ScheduleFault b m a why) ∨ (n = 75 ∧ EngineFault b a why) ∨
  (n = 76 ∧ LinkFault b a why)

end Sys2Proof.Safety
end

