-- ==== Sys2Proof/Certificates/Slice0/Obligations.lean ====
section
/-! DEFINITION. The statements for the provers: what the commands of the part do, and what every step keeps. -/

section

open Sys2Proof Sys2Proof.Machine Sys2Proof.Safety

/-! ### The step, the queue and reset -/

/-- A step with a command waiting is that command's meaning on the state with the queue's rest, and every command goes
on, leaving the queue behind it as it stands (log 1). -/
def Obligations.StepRunsFrontCommand : Prop :=
  ∀ (c : Instr) (rest : List Instr) (s : Machine.State),
    step { s with pending := c :: rest } = exec c { s with pending := rest } ∧
    ∃ t, exec c { s with pending := rest } = .next t ∧ t.pending = rest

/-- R16, R104 to R106, R110, R112, R113, R147, and log 2 (the model's choice): a step on an empty queue is one tick of
1 ms. What the last marker left owing is taken first, in the order of log 8 (the model's, of those the
spec allows); nothing owed, nothing is. Each count that
no command has raised already in this tick then rises by one and is compared with its limit. The gap count, not kept
in LOAD, at the ring-loss limit in RUN or SYNC: RING_LOST with no cycle open, the slot position kept (log 25, the
model's choice). A port's silence count, its TAKEN count (0 while it does not run: log 32, the model's choice) and the
time since its last BEACON: DOWN with a LINK notice, the outstanding message given up, a BEACON due. Then each
transmitter takes a turn, and each panel input not sampled already in this tick is sampled once, at the level of its
pin; the ports, the counts of a port and the inputs in the order of log 17 (the model's choice). -/
def Obligations.IdleStepIsOneTick : Prop :=
  ∀ s : Machine.State, s.pending = [] → ∃ u w x y t : Machine.State, step s = .next t ∧ t.pending = [] ∧
    t = { y with handed := { y.handed with ticked := [] } } ∧ u = State.settle s ∧ Settled s u ∧
    (∀ done, s.handed = { ticked := done } → u = s) ∧
    (s.rpu.state = .load ∨ TickPart.gap ∈ s.handed.ticked → t.rpu = s.rpu) ∧
    (s.rpu.state ≠ .load → TickPart.gap ∉ s.handed.ticked →
      ((s.rpu.state = .run ∨ s.rpu.state = .sync) → ringLossLimit s.tst.table ≤ min 65535 (s.rpu.gap + 1) →
        t.rpu = { s.rpu with gap := min 65535 (s.rpu.gap + 1), state := .ringLost, active := none } ∧
        State.ringFault t = true ∧
        State.counter w .ringLosses = min 65535 (State.counter u .ringLosses + 1)) ∧
      (s.rpu.state = .ringLost ∨ min 65535 (s.rpu.gap + 1) < ringLossLimit s.tst.table →
        t.rpu = { s.rpu with gap := min 65535 (s.rpu.gap + 1) } ∧
        State.counter w .ringLosses = State.counter u .ringLosses)) ∧
    (∀ p : Port, State.port w p = portTicked s.tst.table s.handed.ticked p (State.port u p)) ∧
    w.ncu.queue = (([Port.up, .down].filter (fun p => !s.handed.ticked.contains (.silence p) &&
      silenceExpires s.tst.table (State.port u p))).foldl (fun n p => Ncu.notify n (.link p .down)) u.ncu).queue ∧
    w.ncu.lost = (([Port.up, .down].filter (fun p => !s.handed.ticked.contains (.silence p) &&
      silenceExpires s.tst.table (State.port u p))).foldl (fun n p => Ncu.notify n (.link p .down)) u.ncu).lost ∧
    CountersKept [.ringLosses, .linkTimeouts] u.ncu w.ncu ∧ w.rpu = t.rpu ∧
    State.counter w .linkTimeouts = raised (State.counter u .linkTimeouts)
      (portDrops s.tst.table s.handed.ticked .up u.clu.up + portDrops s.tst.table s.handed.ticked .down u.clu.down) ∧
    (∀ c : Counter, c ≠ .ringLosses → c ≠ .linkTimeouts → State.counter w c = State.counter u c) ∧
    w.clu.arrivals = u.clu.arrivals ∧ w.clu.inflow = u.clu.inflow ∧ w.adu = u.adu ∧ w.scu = u.scu ∧ w.sqe = u.sqe ∧
    w.spu = u.spu ∧ w.mgu = u.mgu ∧ w.tst = u.tst ∧ w.handed = u.handed ∧
    Runs [.linkTransmit .up, .linkTransmit .down] w x ∧
    InputsTicked [.floodAlarm, .maintEnable, .trip 0, .trip 1, .trip 2, .trip 3, .trip 4, .trip 5] x y ∧
    ∀ i : PanelInput, State.panel t i = panelTicked s i

/-- R19, R21, R34, R88, R97, R100, R101, R122, R142, R153, R163, R167, R171, R172: what reset leaves. -/
def Obligations.ResetLeaves : Prop :=
  let s := Machine.State.reset
  s.rpu.state = .load ∧ s.rpu.active = none ∧ s.rpu.cycleNumber = none ∧ State.ringFault s = false ∧
  (∀ g : GateIx, (State.gate s g).admitted = 0 ∧ (State.gate s g).flow = 0 ∧ (State.gate s g).lastCycle = 0 ∧
    (State.gate s g).lastDir = .none ∧ (State.gate s g).measured = none ∧ (State.gate s g).drive = none ∧
    (State.gate s g).holdCount = 0 ∧ (State.gate s g).devCount = 0 ∧ (State.gate s g).deviating = false ∧
    (State.gate s g).owner = .dispatch ∧ (State.gate s g).released = false ∧ (State.gate s g).target = none ∧
    (State.gate s g).lastTag = 0 ∧ (State.gate s g).refusal = .none ∧ (State.gate s g).refused = 0) ∧
  (∀ n : Fin 8, s.adu.gauges[n] = { level := none, age := 65535, bad := 0 }) ∧
  s.adu.tally = 0 ∧ s.adu.base = 0 ∧ s.scu.mode = .normal ∧ s.scu.declared = false ∧ s.scu.exitDwell = 0 ∧
  s.scu.curtailCeiling = 0 ∧ s.scu.curtailLeft = 0 ∧ s.clu.arrivals = [] ∧ s.clu.inflow = none ∧
  s.sqe.owned = [] ∧ s.sqe.seqA = false ∧ s.sqe.seqB = false ∧
  s.spu.sup = .absent ∧ s.spu.lastSeq = none ∧ s.spu.run = false ∧ s.spu.window = 0 ∧
  State.dispatchFail s = true ∧ s.mgu.tablePtr = 0 ∧ s.mgu.statePtr = 0 ∧ s.mgu.buffer = none ∧ s.mgu.op = none ∧
  s.mgu.lastResult = none ∧ s.ncu.queue = [] ∧ s.ncu.lost = 0 ∧ s.ncu.counters = {} ∧ s.ncu.bank = {} ∧
  State.attention s = false ∧ State.floodLine s = false

/-- The machine right after reset is sound. -/
def Obligations.ResetIsSound : Prop := Sound Machine.State.reset

/-! ### What every step keeps -/

/-- R167 to R172: from a sound state every step keeps the notice queue at 16 entries at most, with at most one CLAMP
per gate, the lost count at 255 at most, and every counter, live or captured, within its maximum. -/
def Obligations.StepKeepsNoticesAndCounters : Prop :=
  ∀ s t : Machine.State, Sound s → step s = .next t →
    NoticesOk t.ncu ∧ CountersOk t.ncu.counters ∧ CountersOk t.ncu.bank

/-- R119, R120: from a sound state every step keeps the arrival queue at 64 entries at most, no two of which share
a due interval. -/
def Obligations.StepKeepsArrivalQueue : Prop :=
  ∀ s t : Machine.State, Sound s → step s = .next t → ArrivalsOk t.clu.arrivals

/-- R39: from a sound state every step keeps the discharge tally equal to the sum of the recorded flows of the
counted gates, and so at 1,572,840 fu at most. -/
def Obligations.StepKeepsTally : Prop :=
  ∀ s t : Machine.State, Sound s → step s = .next t →
    t.adu.tally = countedFlow t.adu ∧ (∀ g : GateIx, t.adu.gates[g].flow ≤ 65535) ∧ t.adu.tally ≤ 1572840

/-- R94 to R96: from a sound state every step leaves U as the least of the ceiling, the ceiling of an active
curtailment and base + ramp_up (in FLOOD as base + flood_ramp_up), L as the greater of the floor and base - ramp_down
(in FLOOD also of the known expected inflow less the storage allowance), each held at 16,777,215, and the binding
terms as the first that set them, all for the inputs as they then stand. -/
def Obligations.StepKeepsBoundsCurrent : Prop :=
  ∀ s t : Machine.State, Sound s → step s = .next t → BoundsOk t

/-- R131: from a sound state every step keeps the ownership set equal to the set of the engine-owned gates. -/
def Obligations.StepKeepsOwnershipSet : Prop :=
  ∀ s t : Machine.State, Sound s → step s = .next t → OwnershipOk t

/-- 09 section 9.2 (log 21): from a sound state every step keeps the installed groups, the image and the edit
buffer in their canonical form. -/
def Obligations.StepKeepsStores : Prop :=
  ∀ s t : Machine.State, Sound s → step s = .next t → StoresOk t

/-- 02 Table 2-2, R41: from a sound state every step keeps every gate's block causes, deviation record and counts
sound. -/
def Obligations.StepKeepsGateRecords : Prop :=
  ∀ s t : Machine.State, Sound s → step s = .next t → GatesOk t.adu

/-- R99, R104, R105, R111, R143 to R145, 01 Table 1-3, R161: from a sound state every step keeps the link ports, the
supervision record and the exit dwell count sound, a cycle open in RUN alone, and the lock level at LIMITS or above
while the commission flag is set; and a stored commission flag once set stays set. -/
def Obligations.StepKeepsPortsModesAndLock : Prop :=
  ∀ s t : Machine.State, Sound s → step s = .next t →
    PortsOk t.clu ∧ SupervisionOk t.spu ∧ ModeOk t.scu ∧ CycleOk t.rpu ∧ LockOk t.mgu ∧
      (s.tst.storedFlag = true → t.tst.storedFlag = true)

/-! ### Power, reset and the operations of the Table Store -/

/-- R19, R149: POWER_ON, and RESET_N asserted for its minimum width, give every block its reset value (those the spec
does not give are the model's, logs 4 and 25) and carry the image, the stored commission flag and the pins through. A
STORE or a COMMISSION_LOCK cut short keeps the image's words, level and flag copy (log 14, the model's choice); a
STORE cut short leaves its checksum bad (R164), a RELOAD or no operation leaves the image as it was (R165). A shorter
assertion is taken as a full one or ignored whole (log 13: which is a free value; log 22: taken, the load begins at
once). The release of RESET_N ends the assertion and changes nothing else. -/
def Obligations.ResetTakesEveryBlock : Prop :=
  ∀ s : Machine.State,
    (∃ t u, exec .powerOn s = .next t ∧ exec (.resetNAssert false) s = .next u ∧
      AtReset false s t ∧ AtReset true s u ∧ t.tst.image = u.tst.image ∧
      (s.mgu.op = none ∨ s.mgu.op = some .reload → t.tst.image = s.tst.image) ∧
      (s.mgu.op = some .store → t.tst.image.good = false) ∧
      (s.tst.image.good = false → t.tst.image.good = false)) ∧
    (∃ t, exec (.resetNAssert true) s = .next t ∧
      (AtReset false s t ∨ t = { s with freeCount := s.freeCount + 1 })) ∧
    exec .resetNRelease s = .next { s with tst := { s.tst with resetAsserted := false } }

/-- R166, R19, R21, R83, R90, R93, R100, R104, R122, R127, R148: the completion of the start-up load installs the
image's groups, or the blank image with an IMAGE notice at the head of the queue, sets the lock level and the
commission flag, and gives every block its start-up values: the gate records, the cursor with the limits latched from
it, the ports, the engine in its initial state. The first reading takes each panel input's level from its most recent
sample (inactive where none has been taken: log 10, the model's choice), and an active one is handed on: FLOOD_ALARM
enters FLOOD with its MODE notice, TRIPn gives the WICKET gates of unit n to TRIP. The last entry is RESTART from and
to the initial state. The supervision record (R142), the pointers, buffer and store status, the lost count, the
counters and their bank, and what other blocks have handed on, stand through the load. The slot position, before any
marker, is kept (log 25), and a port starts with no reply, nothing on its line and no BEACON due (log 4): the model's
choices. -/
def Obligations.LoadCompleteStartsBlocks : Prop :=
  ∀ s : Machine.State, s.rpu.state = .load → s.tst.resetAsserted = false → s.ncu.queue = [] →
    ∃ t, exec .startUpLoadComplete s = .next t ∧
      t.rpu = { s.rpu with state := .sync, gap := 0 } ∧
      t.tst.table = (if s.tst.image.good then storedWords s.tst.image.words else blankWords) ∧
      t.tst.image = s.tst.image ∧ t.tst.storedFlag = s.tst.storedFlag ∧
      t.tst = { s.tst with table := t.tst.table } ∧
      t.mgu = { s.mgu with lock := t.mgu.lock, commission := t.mgu.commission } ∧
      t.spu = { s.spu with inputs := t.spu.inputs } ∧ t.ncu = { s.ncu with queue := t.ncu.queue } ∧
      t.mgu.commission = (s.tst.storedFlag || s.tst.image.commission) ∧
      (t.mgu.commission = false → t.mgu.lock = (if s.tst.image.good then s.tst.image.lock else .open)) ∧
      (t.mgu.commission = true →
        t.mgu.lock = (if s.tst.image.good = true ∧ s.tst.image.lock = .full then .full else .limits)) ∧
      t.ncu.queue = (if s.tst.image.good then [] else [.image]) ++
        (if latestSample (State.panel s .floodAlarm) then [.mode .flood .alarm] else []) ∧
      (∀ g : GateIx, State.gate t g = { State.gate State.reset g with
        state := if gateKind t.tst.table g = .absent then .vacant else .acquire,
        owner := if ∃ u : UnitIx, latestSample (State.panel s (.trip u)) = true ∧ gateKind t.tst.table g = .wicket ∧
          gateUnit t.tst.table g = u.val then .trip else .dispatch }) ∧
      t.adu.gauges = State.reset.adu.gauges ∧ t.adu.tally = 0 ∧ t.adu.base = 0 ∧
      t.scu.cursor = (match startBlock t.tst.table with
        | some n => .block n (blockDuration t.tst.table n)
        | none => .none) ∧
      t.scu.limits = (match startBlock t.tst.table with
        | some n => blockLimits t.tst.table n
        | none => defaultLimits t.tst.table) ∧
      t.scu.source = startBlock t.tst.table ∧
      t.scu.mode = (if latestSample (State.panel s .floodAlarm) then .flood else .normal) ∧ t.scu.exitDwell = 0 ∧
      t.scu.declared = false ∧ t.scu.curtailCeiling = 0 ∧ t.scu.curtailLeft = 0 ∧
      t.scu.intervalNumber = 0 ∧ t.scu.cycleCount = 0 ∧
      t.scu.intervalLength = cyclesPerInterval t.tst.table ∧ BoundsOk t ∧
      (∀ p : Port, (State.port t p) =
        { ({} : LinkPort) with state := if portFitted t.tst.table p then .down else .absent }) ∧
      t.clu.arrivals = [] ∧ t.clu.inflow = none ∧
      t.sqe.current = initialState t.tst.table ∧ t.sqe.dwell = 0 ∧ t.sqe.held = false ∧ t.sqe.stepPending = false ∧
      t.sqe.lastLeft = initialState t.tst.table ∧ t.sqe.lastEntered = initialState t.tst.table ∧
      t.sqe.lastCause = .restart ∧
      t.sqe.seqA = levelA t.tst.table t.sqe.current ∧ t.sqe.seqB = levelB t.tst.table t.sqe.current ∧
      OwnershipOk t ∧
      t.handed = { s.handed with actions := s.handed.actions ++ [actionList t.tst.table t.sqe.current] } ∧
      (∀ i : Fin 8, t.spu.inputs[i] =
        { s.spu.inputs[i] with level := latestSample s.spu.inputs[i], count := 0 }) ∧
      t.pending = s.pending

/-- R164, R161: STORE and COMMISSION_LOCK complete, with what the image then holds, the store status and the STORE
notice; nothing else changes. Whether the read-back matches is the command's operand (log 12, the model's choice);
after a failed one the image keeps its words, level and flag copy, and its checksum alone is bad (log 14, the model's
choice). -/
def Obligations.StoreAndCommissionComplete : Prop :=
  (∀ (s : Machine.State) (ok : Bool), s.mgu.op = some .store →
    exec (.storeComplete ok) s = .next { s with
      tst := { s.tst with image :=
        if ok then ⟨storedWords s.tst.table, s.mgu.lock, s.mgu.commission, true⟩
        else { s.tst.image with good := false } },
      mgu := { s.mgu with op := none, lastResult := some (.store, ok) },
      ncu := Ncu.notify s.ncu (.store .store ok) }) ∧
  (∀ (s : Machine.State) (ok : Bool), s.mgu.op = some .commissionLock → s.tst.image.good = true →
    exec (.commissionLockComplete ok) s = .next { s with
      tst := { s.tst with image :=
        if ok then { s.tst.image with
          lock := (if s.tst.image.lock = .open then .limits else s.tst.image.lock), commission := true }
        else { s.tst.image with good := false } },
      mgu := { s.mgu with op := none, lastResult := some (.commissionLock, ok) },
      ncu := Ncu.notify s.ncu (.store .commissionLock ok) }) ∧
  (∀ (s : Machine.State) (ok : Bool), s.mgu.op = some .commissionLock → s.tst.image.good = false →
    exec (.commissionLockComplete ok) s = .next { s with
      mgu := { s.mgu with op := none, lastResult := some (.commissionLock, false) },
      ncu := Ncu.notify s.ncu (.store .commissionLock false) })

/-- R165: RELOAD completes. With a good checksum all groups are installed, word by word but for the request area, and
each block takes its installs: every gate its GATE group (R30, R31; log 30), each port the LINK group (R123; what logs
20 and 32 say of its other fields: the model's choice), the SCU an entry test by the new stale limit and the bounds
(R98 with logs 28 and 34, the model's readings; R103), the engine a restart (R138; an evaluation that is owed stays
owed); a window comparison that is owed is taken first (R142, log 8). The STORE notice joins the queue with those of
the installs, in an order that R167 leaves open. With a bad checksum nothing is installed. The lock level, the
commission flag, the request area and the cursor are kept. -/
def Obligations.ReloadCompletes : Prop :=
  (∀ (s : Machine.State) (order : List InstallTaker), s.mgu.op = some .reload → s.tst.image.good = true →
    ∃ (u t v : Machine.State) (l : List Notice), exec .supervisionWindowExpiry s = .next u ∧
      exec (.reloadComplete order) s = .next t ∧ v = { s with tst := t.tst } ∧
      (WordStore.wf s.tst.table = true → WordStore.wf s.tst.image.words = true → ∀ a,
        (a < 0x74D → WordStore.read t.tst.table a = WordStore.read s.tst.image.words a) ∧
        (inRequestArea a = true → WordStore.read t.tst.table a = WordStore.read s.tst.table a)) ∧
      t.tst.image = s.tst.image ∧ t.tst.storedFlag = s.tst.storedFlag ∧
      t.mgu = { s.mgu with buffer := none, op := none, lastResult := some (.reload, true) } ∧
      (∀ g : GateIx, State.gate t g = State.gate (State.installGate v g) g) ∧ (TallyOk s.adu → TallyOk t.adu) ∧
      t.sqe.current = initialState t.tst.table ∧ t.sqe.dwell = 0 ∧ t.sqe.lastLeft = s.sqe.current ∧
      t.sqe.lastEntered = initialState t.tst.table ∧ t.sqe.lastCause = .restart ∧
      t.sqe.seqA = levelA t.tst.table t.sqe.current ∧ t.sqe.seqB = levelB t.tst.table t.sqe.current ∧
      t.sqe.held = s.sqe.held ∧ t.sqe.stepPending = s.sqe.stepPending ∧ t.sqe.owned = s.sqe.owned ∧
      t.handed = { u.handed with
        actions := s.handed.actions ++ [actionList t.tst.table t.sqe.current],
        curtails := s.handed.curtails ++ (curtailUpOf t.tst.table t.sqe.current).toList } ∧
      t.ncu.queue = (l.foldl Ncu.notify u.ncu).queue ∧ t.ncu.lost = (l.foldl Ncu.notify u.ncu).lost ∧
      l.Perm (gateNotices s t.tst.table ++ entryNotices s t.tst.table ++ linkNotices s t.tst.table ++
        [.engine s.sqe.current t.sqe.current .restart, .store .reload true]) ∧
      State.counter t .engineTransitions = min 65535 (State.counter s .engineTransitions + 1) ∧
      State.counter t .linkTimeouts = raised (State.counter s .linkTimeouts) (linkDrops s t.tst.table) ∧
      CountersKept [.engineTransitions, .linkTimeouts] s.ncu t.ncu ∧ t.tst = { s.tst with table := t.tst.table } ∧
      EntryTested s t.tst.table t.scu ∧ t.scu.declared = s.scu.declared ∧
      t.scu.cursor = s.scu.cursor ∧ t.scu.limits = s.scu.limits ∧ BoundsOk t ∧
      BoundsAlone { s.scu with mode := t.scu.mode, exitDwell := t.scu.exitDwell } t.scu ∧
      (∀ p : Port, PortInstalled t.tst.table p (State.port s p) (State.port t p)) ∧
      t.clu.arrivals = s.clu.arrivals ∧
      t.clu.inflow = s.clu.inflow ∧ t.rpu = s.rpu ∧ t.spu = u.spu ∧ t.adu.gauges = s.adu.gauges ∧
      t.adu.base = s.adu.base ∧ t.pending = s.pending) ∧
  (∀ (s : Machine.State) (order : List InstallTaker), s.mgu.op = some .reload → s.tst.image.good = false →
    exec (.reloadComplete order) s = .next { s with
      mgu := { s.mgu with op := none, lastResult := some (.reload, false) },
      ncu := Ncu.notify s.ncu (.store .reload false) })

/-! ### The cycle marker and the acts due at it -/

/-- R2, R4, R17, R19, R34, R85, R128, R145: a marker that closes no short cycle, taken outside LOAD, opens a cycle
with the installed slot table, ends a ring loss with its RING notice, and is handed to the four counting blocks. Acts
owed for the marker before are taken first, in the order of log 8 (the model's, of those the spec
allows); the gauge ages may be taken late (log 7). R4, R5,
11 Table 11-7: the slot table taken is S and the words of SLOTS; an entry's role is in bits 15..8 and its binding in
bits 7..0; an UNUSED slot 0 serves as the MANAGEMENT slot when no entry within S has that role. A role code above 5,
which the spec does not define and CHECK refuses, is read as UNUSED, for entry 0 too, which then so serves (log 19,
the model's choice). -/
def Obligations.MarkerOpensCycle : Prop :=
  (∀ t : WordStore, (installedSlots t).count = WordStore.nat t 0x000 ∧
    ∀ e, e < 32 → SlotTable.entry (installedSlots t) e = WordStore.read t (0x040 + e)) ∧
  (∀ (x : SlotTable) (p : Nat), SlotTable.role x p = roleServed x p) ∧
  (∀ w : Word, entryBinding w = w.toNat % 256 ∧ ∀ g : GateIx, boundGate w = some g ↔ w.toNat % 256 = g.val) ∧
  ∀ (s : Machine.State) (m : MarkerFields) (late : Bool), s.rpu.state ≠ .load →
    (∀ x, s.rpu.active = some x → x.count ≤ s.rpu.slotPos) →
    ∃ u t, u = State.settle s ∧ Settled s u ∧ exec (.cycleMarker m late) s = .next t ∧
      t.rpu = { state := .run, cycleNumber := some m.cycle, slotPos := 0,
                active := some (installedSlots u.tst.table), gap := 0, ringOut := some (markerFrame m) } ∧
      State.ringFault t = false ∧
      t.scu = { u.scu with cycleCount := u.scu.cycleCount + 1 } ∧
      t.spu = { u.spu with window := min 65535 (u.spu.window + 1) } ∧
      t.sqe = { u.sqe with dwell := min 255 (u.sqe.dwell + 1) } ∧
      (∀ n : Fin 8, t.adu.gauges[n] =
        if late then u.adu.gauges[n] else { u.adu.gauges[n] with age := min 65535 (u.adu.gauges[n].age + 1) }) ∧
      t.adu.gates = u.adu.gates ∧ t.adu.tally = u.adu.tally ∧ t.adu.base = u.adu.base ∧
      t.ncu = (if s.rpu.state = .ringLost then Ncu.notify u.ncu (.ring s.rpu.gap) else u.ncu) ∧
      t.handed = { u.handed with
        ages := late, boundary := u.scu.cycleCount + 1 == u.scu.intervalLength, window := true, evaluation := true } ∧
      t.clu = u.clu ∧ t.mgu = u.mgu ∧ t.tst = u.tst

/-- R15, R82: a marker that closes a short cycle counts SHORT_CYCLES and raises the hold count of each gate, once for
each of its COMMAND slots that no frame reached, when the gate is in SERVICE or STALE, is not to be closed by a trip
and is not engine-owned; at a non-zero hold limit a SERVICE gate goes STALE (R78), each with a GATE_STATE notice
(R32), whose order among them is not said. Every other gate keeps its record. It then opens its own cycle and is
handed to the four counting blocks as any other marker is; whether the ADU takes the increase of the gauge ages at
once or late is the command's operand (log 7, the model's choice). Acts owed for the marker before are taken first, in
the order of log 8 (the model's, of those the spec allows). -/
def Obligations.ShortCycleCountsHolds : Prop :=
  ∀ (s : Machine.State) (m : MarkerFields) (late : Bool) (x : SlotTable), s.rpu.state = .run →
    s.rpu.active = some x → s.rpu.slotPos < x.count →
    ∃ (u t : Machine.State) (l : List Notice) (missed : GateIx → Nat), u = State.settle s ∧ Settled s u ∧
      (∀ g, missed g = ((List.range' s.rpu.slotPos (x.count - s.rpu.slotPos)).filter (fun e =>
        decide (SlotTable.role x e = .command) && decide (boundGate (SlotTable.entry x e) = some g))).length) ∧
      exec (.cycleMarker m late) s = .next t ∧
      t.rpu = { state := .run, cycleNumber := some m.cycle, slotPos := 0,
                active := some (installedSlots u.tst.table), gap := 0, ringOut := some (markerFrame m) } ∧
      t.scu = { u.scu with cycleCount := u.scu.cycleCount + 1 } ∧
      t.spu = { u.spu with window := min 65535 (u.spu.window + 1) } ∧
      t.sqe = { u.sqe with dwell := min 255 (u.sqe.dwell + 1) } ∧
      (∀ n : Fin 8, t.adu.gauges[n] =
        if late then u.adu.gauges[n] else { u.adu.gauges[n] with age := min 65535 (u.adu.gauges[n].age + 1) }) ∧
      t.adu.tally = u.adu.tally ∧ t.adu.base = u.adu.base ∧
      t.handed = { u.handed with
        ages := late, boundary := u.scu.cycleCount + 1 == u.scu.intervalLength, window := true, evaluation := true } ∧
      t.clu = u.clu ∧ t.mgu = u.mgu ∧ t.tst = u.tst ∧ CountersKept [.shortCycles] u.ncu t.ncu ∧
      t.ncu.queue = (l.foldl Ncu.notify u.ncu).queue ∧
      t.ncu.lost = (l.foldl Ncu.notify u.ncu).lost ∧
      l.Perm ((allGates.filter (fun g => decide ((State.gate u g).state = .service) &&
        decide ((State.gate t g).state = .stale))).map (fun g => Notice.gateState g .stale)) ∧
      State.counter t .shortCycles = min 65535 (State.counter u .shortCycles + 1) ∧
      ∀ g : GateIx, State.gate t g =
        if 0 < missed g ∧ ((State.gate u g).state = .service ∨ (State.gate u g).state = .stale) ∧
            State.tripped u g = false ∧ (State.gate u g).owner ≠ .engine then
          { State.gate u g with
            holdCount := min 255 ((State.gate u g).holdCount + missed g),
            state := if (State.gate u g).state = .service ∧ holdLimit u.tst.table g ≠ 0 ∧
                holdLimit u.tst.table g ≤ min 255 ((State.gate u g).holdCount + missed g) then .stale
              else (State.gate u g).state }
        else State.gate u g

/-- R16: the gap count, raised by the tick in progress, reaches the ring-loss limit in RUN or SYNC: RING_LOST,
RING_FAULT asserted, RING_LOSSES counted, the open cycle abandoned without a count, the slot position
kept as it stood (log 25, the model's choice). The command takes this part of the
tick before the rest of it, and no second time (log 2, the model's choice); below the limit, and in LOAD and
RING_LOST, nothing changes. -/
def Obligations.RingLossAbandonsCycle : Prop :=
  ∀ s : Machine.State,
    ((s.rpu.state = .run ∨ s.rpu.state = .sync) → TickPart.gap ∉ s.handed.ticked →
      ringLossLimit s.tst.table ≤ min 65535 (s.rpu.gap + 1) →
      ∃ t u, exec .ringLoss s = .next t ∧ State.ringFault t = true ∧
        u = State.count { s with rpu := { s.rpu with
          gap := min 65535 (s.rpu.gap + 1), state := .ringLost, active := none } } .ringLosses ∧
        t = { u with handed := { s.handed with ticked := s.handed.ticked ++ [.gap] } }) ∧
    (s.rpu.state = .load ∨ s.rpu.state = .ringLost ∨ TickPart.gap ∈ s.handed.ticked ∨
        min 65535 (s.rpu.gap + 1) < ringLossLimit s.tst.table →
      exec .ringLoss s = .next s)

/-- R85, R86, R91, R93, R99, R102: the SCU's steps at a boundary, the SCHEDULE notice of a cursor that takes up a
block or comes to the end (R91) before the MODE notice of an exit from FLOOD (R99), and the boundary event it hands
on. The exit condition is that of R99: the filtered FLOOD_ALARM line inactive, the declaration clear, the headwater
gauge fresh, and its level plus the hysteresis at or below the flood stage. -/
def Obligations.BoundaryAdvancesInterval : Prop :=
  ∀ s : Machine.State, s.handed.boundary = true → ∃ t v, exec .intervalBoundary s = .next t ∧
    (State.exitHolds s = true ↔ ¬ LineActive s .floodAlarm ∧ s.scu.declared = false ∧
      ∃ level, freshIn s s.tst.table (headwaterGauge s.tst.table) = some level ∧
        level + hysteresis s.tst.table ≤ floodStage s.tst.table) ∧
    v = (match s.scu.cursor with
      | .block n left =>
        if 1 < left then s.ncu
        else (match blockNext s.tst.table n with
          | some m => Ncu.notify s.ncu (.schedule m false)
          | none => Ncu.notify s.ncu (.schedule n true))
      | _ => s.ncu) ∧
    t.ncu = (if s.scu.mode = .flood ∧ State.exitHolds s = true ∧
        exitDwellLimit s.tst.table ≤ min 255 (s.scu.exitDwell + 1)
      then Ncu.notify v (.mode .normal .dwell) else v) ∧
    t.scu.intervalNumber = s.scu.intervalNumber + 1 ∧ t.scu.cycleCount = 0 ∧
    t.scu.intervalLength = cyclesPerInterval s.tst.table ∧ t.scu.curtailLeft = s.scu.curtailLeft - 1 ∧
    t.scu.curtailCeiling = s.scu.curtailCeiling ∧ t.scu.declared = s.scu.declared ∧
    (s.scu.cursor = .none → t.scu.cursor = .none ∧ t.scu.limits = defaultLimits s.tst.table ∧ t.scu.source = none) ∧
    (s.scu.cursor = .holdingLast →
      t.scu.cursor = .holdingLast ∧ t.scu.limits = s.scu.limits ∧ t.scu.source = s.scu.source) ∧
    (∀ n left, s.scu.cursor = .block n left → 1 < left →
      t.scu.cursor = .block n (left - 1) ∧ t.scu.limits = blockLimits s.tst.table n ∧ t.scu.source = some n) ∧
    (∀ n left m, s.scu.cursor = .block n left → left ≤ 1 → blockNext s.tst.table n = some m →
      t.scu.cursor = .block m (blockDuration s.tst.table m) ∧ t.scu.limits = blockLimits s.tst.table m ∧
        t.scu.source = some m) ∧
    (∀ n left, s.scu.cursor = .block n left → left ≤ 1 → blockNext s.tst.table n = none →
      t.scu.cursor = .holdingLast ∧ t.scu.limits = s.scu.limits ∧ t.scu.source = s.scu.source) ∧
    (s.scu.mode = .normal → t.scu.mode = .normal ∧ t.scu.exitDwell = s.scu.exitDwell) ∧
    (s.scu.mode = .flood → State.exitHolds s = false → t.scu.mode = .flood ∧ t.scu.exitDwell = 0) ∧
    (s.scu.mode = .flood → State.exitHolds s = true →
      exitDwellLimit s.tst.table ≤ min 255 (s.scu.exitDwell + 1) → t.scu.mode = .normal ∧ t.scu.exitDwell = 0) ∧
    (s.scu.mode = .flood → State.exitHolds s = true →
      min 255 (s.scu.exitDwell + 1) < exitDwellLimit s.tst.table →
      t.scu.mode = .flood ∧ t.scu.exitDwell = min 255 (s.scu.exitDwell + 1)) ∧
    BoundsOk t ∧
    t.handed = { s.handed with
      boundary := false, reRatings := s.handed.reRatings ++ [t.scu.intervalNumber],
      maturities := s.handed.maturities ++ [t.scu.intervalNumber] } ∧
    t.adu = s.adu ∧ t.clu = s.clu ∧ t.sqe = s.sqe ∧ t.spu = s.spu ∧ t.rpu = s.rpu ∧ t.mgu = s.mgu ∧ t.tst = s.tst

/-- R87, R88, R115: the re-rating on a boundary event: every counted gate's recorded flow at one head, the tally and
the base their sum, the bounds recomputed, and a RELEASE of the new base produced for a present down port (a TAKEN count
that does not run stands at 0: log 32, the model's choice). -/
def Obligations.ReRatingSetsBase : Prop :=
  ∀ (s : Machine.State) (n : BitVec 32) (rest : List (BitVec 32)), s.handed.reRatings = n :: rest →
    ∃ u t, exec .reRating s = .next t ∧
      (∀ g : GateIx, State.gate t g =
        if GateState.counted (State.gate s g).state then
          { State.gate s g with flow := flowAt s.tst.table g (State.head s) (State.gate s g).admitted }
        else State.gate s g) ∧
      t.adu.tally = countedFlow t.adu ∧ t.adu.base = t.adu.tally ∧ t.adu.gauges = s.adu.gauges ∧
      u.scu = t.scu ∧ u.clu = s.clu ∧ u.ncu = s.ncu ∧ BoundsOk u ∧ BoundsAlone s.scu t.scu ∧
      ((State.port s .down).state = .absent → t = u) ∧
      ((State.port s .down).state ≠ .absent →
        ProducedTo u .down ⟨.release, BitVec.ofNat 24 t.adu.base, n.extractLsb' 0 16⟩ t) ∧
      t.handed = { s.handed with reRatings := rest } ∧
      t.sqe = s.sqe ∧ t.spu = s.spu ∧ t.rpu = s.rpu ∧ t.mgu = s.mgu ∧ t.tst = s.tst

/-- R121, R122: the maturing on a boundary event of interval n: the entries due at or before n leave the head of the
queue in order, and the last of them gives the expected inflow; with none due nothing changes. -/
def Obligations.MaturityAdoptsLastEntry : Prop :=
  ∀ (s : Machine.State) (n : BitVec 32) (rest : List (BitVec 32)), s.handed.maturities = n :: rest →
    ∃ t, exec .arrivalMaturity s = .next t ∧
      t.clu.arrivals = s.clu.arrivals.dropWhile (fun e => dueBy e.due n) ∧
      t.clu.inflow = (match (s.clu.arrivals.takeWhile (fun e => dueBy e.due n)).getLast? with
        | some e => some ⟨e.discharge, e.flood, e.source⟩
        | none => s.clu.inflow) ∧
      (s.clu.arrivals.takeWhile (fun e => dueBy e.due n) ≠ [] → BoundsOk t ∧ BoundsAlone s.scu t.scu) ∧
      (s.clu.arrivals.takeWhile (fun e => dueBy e.due n) = [] → t.scu = s.scu) ∧
      t.clu.up = s.clu.up ∧ t.clu.down = s.clu.down ∧ t.handed = { s.handed with maturities := rest } ∧
      t.adu = s.adu ∧ t.sqe = s.sqe ∧ t.spu = s.spu ∧ t.rpu = s.rpu ∧ t.mgu = s.mgu ∧ t.tst = s.tst ∧ t.ncu = s.ncu

/-- R145: the comparison of the window count at a marker. -/
def Obligations.SupervisionWindowExpires : Prop :=
  ∀ s : Machine.State, s.handed.window = true →
    (s.spu.sup = .present → supervisionWindow s.tst.table ≤ s.spu.window →
      ∃ t, exec .supervisionWindowExpiry s = .next t ∧ State.dispatchFail t = true ∧
        t = { s with
          spu := { s.spu with sup := .lost, run := false }, ncu := Ncu.notify s.ncu (.dispatch false),
          handed := { s.handed with window := false } }) ∧
    (s.spu.sup ≠ .present → s.spu.run = true → supervisionWindow s.tst.table ≤ s.spu.window →
      exec .supervisionWindowExpiry s = .next { s with
        spu := { s.spu with run := false, lastSeq := none }, handed := { s.handed with window := false } }) ∧
    (s.spu.window < supervisionWindow s.tst.table ∨ (s.spu.sup ≠ .present ∧ s.spu.run = false) →
      exec .supervisionWindowExpiry s = .next { s with handed := { s.handed with window := false } })

/-- R125, R128, R130, R132, R133: the evaluation of a marker. Not due, or with no transition true, it only spends a
pending step; otherwise the first true transition of the current state, in table order, is an entry to its state. A
transition is true as 07 Table 7-2 says for its condition, by the code, index and value of its words: TRIP and NO_TRIP
by the unit's filtered trip line, FLOOD and NORMAL by the mode, GAUGE_ABOVE and GAUGE_BELOW by a fresh gauge's level,
DISPATCH_LOST and DISPATCH_PRESENT by supervision, LINK_DOWN by the port (0 up, 1 down), DWELL by the dwell count, and
ALWAYS; one whose words CHECK would have refused as log 19 says (the model's reading). -/
def Obligations.EvaluationTakesFirstTransition : Prop :=
  (∀ (s : Machine.State) (n : Nat), n < 24 →
    (State.holds s (transitionAt s.tst.table n) = true ↔
      ConditionTrue s (WordStore.nat s.tst.table (0x544 + 3 * n) / 256)
        (WordStore.nat s.tst.table (0x544 + 3 * n) % 256) (WordStore.nat s.tst.table (0x545 + 3 * n)))) ∧
  ∀ s : Machine.State, s.handed.evaluation = true →
    ((s.sqe.held = true ∧ s.sqe.stepPending = false) ∨ s.sqe.dwell < minDwell s.tst.table s.sqe.current ∨
        (∀ k, k < min 24 (transitionCount s.tst.table) → (transitionAt s.tst.table k).src = s.sqe.current →
          State.holds s (transitionAt s.tst.table k) = false) →
      exec .engineEvaluation s = .next { s with
        sqe := { s.sqe with
          stepPending := false, held := if s.sqe.stepPending then true else s.sqe.held },
        handed := { s.handed with evaluation := false } }) ∧
    (∀ n, (s.sqe.held = false ∨ s.sqe.stepPending = true) → minDwell s.tst.table s.sqe.current ≤ s.sqe.dwell →
      n < min 24 (transitionCount s.tst.table) → (transitionAt s.tst.table n).src = s.sqe.current →
      State.holds s (transitionAt s.tst.table n) = true →
      (∀ k, k < n → (transitionAt s.tst.table k).src = s.sqe.current →
        State.holds s (transitionAt s.tst.table k) = false) →
      ∃ t, exec .engineEvaluation s = .next t ∧
        t.sqe = { s.sqe with
          current := (transitionAt s.tst.table n).dst, dwell := 0, lastLeft := s.sqe.current,
          lastEntered := (transitionAt s.tst.table n).dst, lastCause := .transition n,
          seqA := levelA s.tst.table (transitionAt s.tst.table n).dst,
          seqB := levelB s.tst.table (transitionAt s.tst.table n).dst,
          stepPending := false, held := if s.sqe.stepPending then true else s.sqe.held } ∧
        t.ncu.queue =
          (Ncu.notify s.ncu (.engine s.sqe.current (transitionAt s.tst.table n).dst (.transition n))).queue ∧
        t.ncu.lost =
          (Ncu.notify s.ncu (.engine s.sqe.current (transitionAt s.tst.table n).dst (.transition n))).lost ∧
        CountersKept [.engineTransitions] s.ncu t.ncu ∧
        State.counter t .engineTransitions = min 65535 (State.counter s .engineTransitions + 1) ∧
        t.handed = { s.handed with
          evaluation := false,
          actions := s.handed.actions ++ [actionList s.tst.table (transitionAt s.tst.table n).dst],
          curtails := s.handed.curtails ++ (curtailUpOf s.tst.table (transitionAt s.tst.table n).dst).toList } ∧
        t.adu = s.adu ∧ t.scu = s.scu ∧ t.clu = s.clu ∧ t.spu = s.spu ∧ t.rpu = s.rpu ∧ t.mgu = s.mgu ∧ t.tst = s.tst)

/-- The model's reading (log 33, DEDUCED) of R75 against R131: an action list applied to every gate as one act, and
the ownership set reported. The steps are R75's, which go by the owner: a named gate whose owner is TRIP keeps it with
the target stored, any other becomes ENGINE, and a gate no longer named leaves the engine. Where a GATE install has
made the owner and R131's table disagree, R131's table says otherwise of the named gate: that R75 is followed there is
the model's choice, not the spec's. -/
def Obligations.ActionListSetsOwners : Prop :=
  ∀ (s : Machine.State) (l : ActionList) (rest : List ActionList), s.handed.actions = l :: rest →
    ∃ t, exec .actionListApply s = .next t ∧
      (∀ g a, ActionList.find l g = some a → (State.gate s g).owner = .trip →
        State.gate t g = { State.gate s g with released := false, target := some a }) ∧
      (∀ g a, ActionList.find l g = some a → (State.gate s g).owner ≠ .trip →
        State.gate t g = { State.gate s g with released := false, owner := .engine, target := some a }) ∧
      (∀ g, ActionList.find l g = none → (State.gate s g).owner = .engine →
        State.gate t g = { State.gate s g with released := false, owner := .dispatch, target := none }) ∧
      (∀ g, ActionList.find l g = none → (State.gate s g).owner ≠ .engine →
        State.gate t g = { State.gate s g with released := false }) ∧
      OwnershipOk t ∧ t.sqe = { s.sqe with owned := t.sqe.owned } ∧ t.handed = { s.handed with actions := rest } ∧
      t.adu.tally = s.adu.tally ∧ t.adu.base = s.adu.base ∧ t.adu.gauges = s.adu.gauges ∧
      t.scu = s.scu ∧ t.clu = s.clu ∧ t.spu = s.spu ∧ t.rpu = s.rpu ∧ t.mgu = s.mgu ∧ t.tst = s.tst ∧ t.ncu = s.ncu

/-- R111, R114, R132, R162: a CURTAIL for the up port, of an entered state's CURTAIL_UP or of an accepted
CURTAIL_REQUEST, with the ceiling held at 16,777,215 and the duration at 255 (a TAKEN count that does not run
stands at 0: log 32, the model's choice). -/
def Obligations.CurtailIsProduced : Prop :=
  (∀ (s : Machine.State) (ceiling duration : Nat) (rest : List (Nat × Nat)),
    s.handed.curtails = (ceiling, duration) :: rest →
    ∃ t, exec .curtailUp s = .next t ∧
      ProducedTo { s with handed := { s.handed with curtails := rest } } .up
        ⟨.curtail, BitVec.ofNat 24 (min 16777215 ceiling), BitVec.ofNat 16 (min 255 duration)⟩ t) ∧
  (∀ (s : Machine.State) (q : CommandRequest), AtManagement s → s.mgu.lock ≠ .full →
    ∃ u, exec (.curtailRequest q) s = .next (tookFrame u (commandReply 14 q)) ∧
      ProducedTo s .up ⟨.curtail, BitVec.ofNat 24 (min 16777215 (requestCeiling s.tst.table)),
        BitVec.ofNat 16 (min 255 (requestDuration s.tst.table))⟩ u)

/-! ### COMMAND slots and admission -/

/-- R7, R8, R63: every SETPOINT that comes to leave at ring-out, whatever the command and the state, is sent for a
frame taken in a COMMAND slot, is good, names the gate bound to the slot, and carries in value A the admitted
opening the part has recorded for it. -/
def Obligations.OnlyCommandSlotsSendSetpoints : Prop :=
  ∀ (c : Instr) (s t : Machine.State) (o : Frame), exec c s = .next t → t.rpu.ringOut = some o →
    o.kind = kindSetpoint → s.rpu.ringOut = some o ∨
      ∃ x g, s.rpu.state ≠ .load ∧ s.rpu.active = some x ∧ s.rpu.slotPos < x.count ∧
        SlotTable.role x s.rpu.slotPos = .command ∧ boundGate (SlotTable.entry x s.rpu.slotPos) = some g ∧
        Frame.good o = true ∧ o.id.toNat = g.val ∧ o.valueA = BitVec.ofNat 16 (State.gate t g).admitted

/-- R68, R69, R76, R81: the COMMAND slot of a gate that dispatch cannot command. In VACANT or ACQUIRE the slot carries
a blank IDLE frame, whatever arrives; in BLOCKED or LOCAL, when neither a trip nor the engine commands the gate, a hold
frame at the admitted opening. A usable dispatch command is refused with NOT_SERVICE; nothing else changes. -/
def Obligations.GateNotInServiceIsNotMoved : Prop :=
  ∀ (s : Machine.State) (g : GateIx) (f : Frame), AtCommand s g → Frame.isMarker f = false →
    (GateState.counted (State.gate s g).state = false →
      (Usable s g f → exec (.commandSlotFrame f) s = .next (tookFrame
        (State.count (withGate s g (fun r => { r with refusal := .notService, refused := f.valueA })) .refused)
        blankIdle)) ∧
      (Silent s g f → exec (.commandSlotFrame f) s = .next (tookFrame (slotCounts s g f) blankIdle))) ∧
    (((State.gate s g).state = .blocked ∨ (State.gate s g).state = .localControl) → State.tripped s g = false →
      (State.gate s g).owner ≠ .engine → (State.gate s g).owner ≠ .trip →
      (Usable s g f → exec (.commandSlotFrame f) s = .next (tookFrame
        (State.count (withGate s g (fun r => { r with refusal := .notService, refused := f.valueA })) .refused)
        (setpoint g (State.gate s g).admitted f.valueA (State.gate s g).lastTag 4))) ∧
      (Silent s g f → exec (.commandSlotFrame f) s = .next (tookFrame (slotCounts s g f)
        (setpoint g (State.gate s g).admitted (BitVec.ofNat 16 (State.gate s g).admitted)
          (State.gate s g).lastTag 4))))

/-- R70, R71, R72: the COMMAND slot of a wicket gate whose unit is tripped: the gate is closed to travel_min without
admission, its owner is TRIP, its hold count 0, a usable command is refused, and the closure frame leaves. A gate with
owner TRIP that no trip holds any more takes its new owner at the start of the selection: ENGINE with the action that
the engine's current state names for it, unless the gate is released, and otherwise DISPATCH, its engine target
staying in its field (log 16, the model's reading). A gate is tripped when its installed kind is WICKET and the
filtered trip line of its installed unit is active. A closure is no admission: of the station counters it raises
REFUSED alone, beside what the frame itself counts (BAD_CHECK, MISROUTED), and ADMITTED and the four clamp counters
stay. -/
def Obligations.TripClosesGate : Prop :=
  (∀ (s : Machine.State) (g : GateIx), State.tripped s g = true ↔ WordStore.nat s.tst.table (0x080 + 16 * g.val) = 1 ∧
    ∃ u : UnitIx, WordStore.nat s.tst.table (0x081 + 16 * g.val) = u.val ∧ LineActive s (.trip u)) ∧
  (∀ (s : Machine.State) (g : GateIx) (f : Frame), AtCommand s g → Frame.isMarker f = false →
    GateState.counted (State.gate s g).state = true → State.tripped s g = true →
    ∃ t q, exec (.commandSlotFrame f) s = .next t ∧
      q = flowAt s.tst.table g (State.head s) (travelMin s.tst.table g) ∧
      (Usable s g f →
        State.gate t g = { State.gate s g with
          owner := .trip, holdCount := 0, admitted := travelMin s.tst.table g, flow := q, lastCycle := State.cycle s,
          lastDir := .none, refusal := .tripped, refused := f.valueA } ∧
        State.counter t .refused = min 65535 (State.counter s .refused + 1) ∧
        t.rpu = { s.rpu with
          slotPos := s.rpu.slotPos + 1,
          ringOut := some (setpoint g (travelMin s.tst.table g) f.valueA (State.gate s g).lastTag 8) }) ∧
      (Silent s g f →
        State.gate t g = { State.gate s g with
          owner := .trip, holdCount := 0, admitted := travelMin s.tst.table g, flow := q, lastCycle := State.cycle s,
          lastDir := .none } ∧
        State.counter t .refused = State.counter s .refused ∧
        t.rpu = { s.rpu with
          slotPos := s.rpu.slotPos + 1,
          ringOut := some (setpoint g (travelMin s.tst.table g) (BitVec.ofNat 16 (travelMin s.tst.table g))
            (State.gate s g).lastTag 8) }) ∧
      OtherGatesKept g s t ∧ t.adu.tally = s.adu.tally + q - (State.gate s g).flow ∧
      t.ncu.counters.travel[g] = min 4294967295 (s.ncu.counters.travel[g] +
        distance (travelMin s.tst.table g) (State.gate s g).admitted) ∧
      (∀ k : GateIx, k ≠ g → t.ncu.counters.travel[k] = s.ncu.counters.travel[k]) ∧
      t.ncu.counters.reversals = s.ncu.counters.reversals ∧
      (∀ c : Counter, c ≠ .refused → State.counter t c = State.counter (slotCounts s g f) c) ∧
      (∀ c ∈ [Counter.admitted, .clampRate, .clampTravel, .clampCeiling, .clampFloor],
        State.counter t c = State.counter s c) ∧
      t.ncu.queue = s.ncu.queue ∧ t.ncu.lost = s.ncu.lost ∧ t.ncu.bank = s.ncu.bank ∧
      t.sqe = { s.sqe with owned := t.sqe.owned } ∧ OwnershipOk t ∧ CommandFrameKept s t) ∧
  (∀ (s : Machine.State) (g : GateIx) (f : Frame), AtCommand s g → Frame.isMarker f = false →
    GateState.counted (State.gate s g).state = true → State.tripped s g = false → (State.gate s g).owner = .trip →
    ∃ u, exec (.commandSlotFrame f) s = exec (.commandSlotFrame f) u ∧
      State.gate u g = (match ActionList.find (actionList s.tst.table s.sqe.current) g with
        | some a => if (State.gate s g).released then { State.gate s g with owner := .dispatch }
          else { State.gate s g with owner := .engine, target := some a }
        | none => { State.gate s g with owner := .dispatch }) ∧
      OtherGatesKept g s u ∧ OwnershipOk u ∧
      u = { s with
        adu := { s.adu with gates := u.adu.gates }, sqe := { s.sqe with owned := u.sqe.owned } })

/-- R73, R77: a usable dispatch command for a gate in SERVICE or STALE, in the urgent case whoever owns the gate but
TRIP, otherwise when DISPATCH or LOSS owns it, is submitted to admission: the gate is in SERVICE under DISPATCH with
hold count 0, a gate taken from the engine is released, its engine target staying in its field (log 16, the model's
reading), and the admitted frame carries the request and the tag. The GATE_STATE notice of a STALE gate joins the
queue first (log 27 for the urgent case, where R73 does not say), then the CLAMP of an admission whose result differs
from the request, with the last stage that moved the value as its reason (R59; log 24 where R54's remark says
otherwise), the bound's term for UPPER and LOWER (R60), the request and the result; each stage that moved the value is
counted (R61), and so is a reversal of the last direction (R57). -/
def Obligations.DispatchCommandIsAdmitted : Prop :=
  ∀ (s : Machine.State) (g : GateIx) (f : Frame) (urgent : Bool), AtCommand s g → Usable s g f →
    ((State.gate s g).state = .service ∨ (State.gate s g).state = .stale) → State.tripped s g = false →
    (State.gate s g).owner ≠ .trip →
    urgent = (urgentFlag f.flags && decide (min f.valueA.toNat 10000 ≤ (State.gate s g).admitted)) →
    (urgent = true ∨ (State.gate s g).owner ≠ .engine) →
    ∃ t x, exec (.commandSlotFrame f) s = .next t ∧
      x = State.stages s g ⟨.dispatch, f.valueA.toNat, urgent, f.tag⟩ ∧
      x.r = min f.valueA.toNat 10000 ∧
      AdmissionReported s t g x
        (if (State.gate s g).state = .stale then Ncu.notify s.ncu (.gateState g .service) else s.ncu) ∧
      State.gate t g = { State.gate s g with
        holdCount := 0, state := .service, owner := .dispatch,
        released := if (State.gate s g).owner = .engine then true else (State.gate s g).released,
        admitted := x.out.result, flow := x.flow, lastCycle := State.cycle s,
        lastDir := newDirection (State.gate s g).lastDir (State.gate s g).admitted x.out.result, lastTag := f.tag } ∧
      t.rpu = { s.rpu with
        slotPos := s.rpu.slotPos + 1,
        ringOut := some (setpoint g x.out.result f.valueA f.tag
          (setpointFlags urgent (x.out.result != min f.valueA.toNat 10000) false false)) } ∧
      OtherGatesKept g s t ∧ t.adu.tally = s.adu.tally + x.flow - (State.gate s g).flow ∧
      (∀ c : Counter, c ∉ [Counter.admitted, .clampRate, .clampTravel, .clampCeiling, .clampFloor] →
        State.counter t c = State.counter s c) ∧
      t.sqe = { s.sqe with owned := t.sqe.owned } ∧ (OwnershipOk s → OwnershipOk t) ∧ CommandFrameKept s t

/-- R74, R68: the COMMAND slot of an engine-owned gate, when no urgent close takes it, carries the admission of its
engine target; a usable dispatch command is refused with ENGINE_OWNED, counted in REFUSED, and shows in value B; the
hold count is 0, the last direction follows the move (R57), and the rest of the record stays, the released mark
included. The admission counts and reports as R57 to R62 say, a CLAMP included (log 24 where R54's remark says
otherwise). -/
def Obligations.EngineTargetIsPursued : Prop :=
  ∀ (s : Machine.State) (g : GateIx) (f : Frame) (a : Target), AtCommand s g → Frame.isMarker f = false →
    GateState.counted (State.gate s g).state = true → State.tripped s g = false →
    (State.gate s g).owner = .engine → (State.gate s g).target = some a →
    (Silent s g f ∨ urgentFlag f.flags = false ∨ (State.gate s g).admitted < min f.valueA.toNat 10000 ∨
      (State.gate s g).state = .blocked ∨ (State.gate s g).state = .localControl) →
    ∃ t x y r, exec (.commandSlotFrame f) s = .next t ∧
      y = (match a with
        | .set o => (⟨.engine, o, false, 0⟩ : Submission)
        | .closeUrgent => ⟨.engine, 0, true, 0⟩) ∧
      x = State.stages s g y ∧
      x.r = min y.request 10000 ∧ AdmissionReported s t g x s.ncu ∧
      r = { State.gate s g with
        holdCount := 0, admitted := x.out.result, flow := x.flow, lastCycle := State.cycle s,
        lastDir := if (State.gate s g).admitted < x.out.result then .up
          else if x.out.result < (State.gate s g).admitted then .down else (State.gate s g).lastDir } ∧
      (Usable s g f → State.gate t g = { r with refusal := .engineOwned, refused := f.valueA } ∧
        State.counter t .refused = min 65535 (State.counter s .refused + 1) ∧
        t.rpu = { s.rpu with
          slotPos := s.rpu.slotPos + 1,
          ringOut := some (setpoint g x.out.result f.valueA (State.gate s g).lastTag
            (setpointFlags x.urgent (Stages.clamp x) false true)) }) ∧
      (Silent s g f → State.gate t g = r ∧ State.counter t .refused = State.counter s .refused ∧
        t.rpu = { s.rpu with
          slotPos := s.rpu.slotPos + 1,
          ringOut := some (setpoint g x.out.result (BitVec.ofNat 16 y.request) (State.gate s g).lastTag
            (setpointFlags x.urgent (Stages.clamp x) false true)) }) ∧
      (∀ c : Counter, c ∉ [Counter.admitted, .clampRate, .clampTravel, .clampCeiling, .clampFloor, .refused] →
        State.counter t c = State.counter (slotCounts s g f) c) ∧
      OtherGatesKept g s t ∧ t.adu.tally = s.adu.tally + x.flow - (State.gate s g).flow ∧
      t.sqe = s.sqe ∧ CommandFrameKept s t

/-- R78, R79, R81: a COMMAND slot with no usable command for a gate in SERVICE or STALE under DISPATCH or LOSS: the
hold count rises, a SERVICE gate at its non-zero hold limit goes STALE; a STALE gate whose loss action is DRIVE_TO
is admitted toward its safe opening under LOSS, any other gate gets a hold frame, counted in HOLD_FILLS. A gate
that goes STALE queues its GATE_STATE notice (R32), before the CLAMP of a LOSS admission, which counts and reports as
R57 to R62 say (log 24 where R54's remark says otherwise). -/
def Obligations.SilentGateIsHeldOrDriven : Prop :=
  ∀ (s : Machine.State) (g : GateIx) (f : Frame) (n : Nat) (st : GateState)
    (v : Ncu), AtCommand s g →
    Frame.isMarker f = false → Silent s g f →
    ((State.gate s g).state = .service ∨ (State.gate s g).state = .stale) → State.tripped s g = false →
    (State.gate s g).owner ≠ .engine → (State.gate s g).owner ≠ .trip →
    n = min 255 ((State.gate s g).holdCount + 1) →
    st = (if (State.gate s g).state = .stale ∨ (holdLimit s.tst.table g ≠ 0 ∧ holdLimit s.tst.table g ≤ n)
      then .stale else .service) →
    v = (if (State.gate s g).state = .service ∧ st = .stale then Ncu.notify s.ncu (.gateState g .stale) else s.ncu) →
    (¬ (st = .stale ∧ driveTo s.tst.table g = true) →
      ∃ t, exec (.commandSlotFrame f) s = .next t ∧
        State.gate t g = { State.gate s g with holdCount := n, state := st, owner := .dispatch } ∧
        OtherGatesKept g s t ∧ t.adu.tally = s.adu.tally ∧
        State.counter t .holdFills = min 65535 (State.counter s .holdFills + 1) ∧
        CountersKept [.holdFills] (slotCounts s g f).ncu t.ncu ∧ t.ncu.queue = v.queue ∧ t.ncu.lost = v.lost ∧
        t.rpu = { s.rpu with
          slotPos := s.rpu.slotPos + 1,
          ringOut := some (setpoint g (State.gate s g).admitted (BitVec.ofNat 16 (State.gate s g).admitted)
            (State.gate s g).lastTag 4) } ∧ t.sqe = s.sqe ∧ CommandFrameKept s t) ∧
    (st = .stale → driveTo s.tst.table g = true →
      ∃ t x, exec (.commandSlotFrame f) s = .next t ∧
        x = State.stages s g ⟨.loss, safeOpening s.tst.table g, false, 0⟩ ∧
        x.r = min (safeOpening s.tst.table g) 10000 ∧ AdmissionReported s t g x v ∧
        State.gate t g = { State.gate s g with
          holdCount := n, state := .stale, owner := .loss, admitted := x.out.result, flow := x.flow,
          lastCycle := State.cycle s,
          lastDir := newDirection (State.gate s g).lastDir (State.gate s g).admitted x.out.result } ∧
        OtherGatesKept g s t ∧ t.adu.tally = s.adu.tally + x.flow - (State.gate s g).flow ∧
        (∀ c : Counter, c ∉ [Counter.admitted, .clampRate, .clampTravel, .clampCeiling, .clampFloor] →
          State.counter t c = State.counter (slotCounts s g f) c) ∧
        t.rpu = { s.rpu with
          slotPos := s.rpu.slotPos + 1,
          ringOut := some (setpoint g x.out.result (BitVec.ofNat 16 (safeOpening s.tst.table g))
            (State.gate s g).lastTag (setpointFlags false (Stages.clamp x) false false)) } ∧
        t.sqe = s.sqe ∧ CommandFrameKept s t)

/-- R34 to R38, 11 Table 11-7: every field of STATION, GATE, SCHEDULE, ENGINE and LINK is read at the words the table
gives it (one that CHECK would have refused as log 19 says: the model's reading). The head is the headwater level less
the tailwater level, or 0, while both gauges are fresh (a level younger than the stale limit), else the fallback head.
Over points of rising openings, the curve's flow in a segment is its first flow plus the floored share of the rise, at
a point that point's flow, at the last opening the last flow; the head factor likewise over rising heads, below the
first head the first factor and from the last on the last. The points are the words of the CURVE group named and of
HEADTABLE, up to the first factor word of 0. The rated flow is the curve's interpolated flow times the head factor
over 4096, held at 65535; over a curve of rising openings and flows that do not fall it never decreases as the opening
rises. Up is the largest opening of its range whose flow does not pass the target, or the low end when there is none;
Down is the smallest that reaches it, or the high end. -/
def Obligations.RatedFlowAndItsInverses : Prop :=
  (∀ t : WordStore, FieldsAt t) ∧
  (∀ (s : Machine.State) (n : Nat), State.freshLevel s n = freshIn s s.tst.table n) ∧
  (∀ (s : Machine.State) (hw tw : Nat), freshIn s s.tst.table (headwaterGauge s.tst.table) = some hw →
    freshIn s s.tst.table (tailwaterGauge s.tst.table) = some tw → State.head s = hw - tw) ∧
  (∀ s : Machine.State, freshIn s s.tst.table (headwaterGauge s.tst.table) = none ∨
    freshIn s s.tst.table (tailwaterGauge s.tst.table) = none →
    State.head s = WordStore.nat s.tst.table 0x008) ∧
  (∀ (l : List (Nat × Nat)) (i o : Nat) (a b : Nat × Nat), l.Pairwise (fun x y => x.1 < y.1) → l[i]? = some a →
    l[i + 1]? = some b → a.1 ≤ o → o < b.1 →
    interp l o = a.2 + (o - a.1) * (b.2 - a.2) / (b.1 - a.1) ∧
    headFactor l o = a.2 + (o - a.1) * (b.2 - a.2) / (b.1 - a.1)) ∧
  (∀ (l : List (Nat × Nat)) (o : Nat) (a : Nat × Nat), l.Pairwise (fun x y => x.1 < y.1) →
    (a ∈ l → interp l a.1 = a.2 ∧ headFactor l a.1 = a.2) ∧
    (l.getLast? = some a → a.1 ≤ o → interp l o = a.2 ∧ headFactor l o = a.2) ∧
    (l.head? = some a → o ≤ a.1 → headFactor l o = a.2)) ∧
  (∀ (t : WordStore) (j p : Nat), j < 16 → p < 12 → (curvePoints t j)[p]? =
    if p < WordStore.nat t (0x200 + 32 * j) then
      some (WordStore.nat t (0x201 + 32 * j + 2 * p), WordStore.nat t (0x202 + 32 * j + 2 * p))
    else none) ∧
  (∀ (t : WordStore) (p : Nat), p < 8 → (headPoints t)[p]? =
    if (List.range (p + 1)).all (fun c => WordStore.nat t (0x401 + 2 * c) != 0) then
      some (WordStore.nat t (0x400 + 2 * p), WordStore.nat t (0x401 + 2 * p))
    else none) ∧
  (∀ (t : WordStore) (g : GateIx) (h o : Nat), flowAt t g h o =
    min 65535 (interp (curvePoints t (gateCurve t g)) o * headFactor (headPoints t) h / 4096)) ∧
  (∀ (curve : List (Nat × Nat)) (factor o o' : Nat), curve.Pairwise (fun a b => a.1 < b.1 ∧ a.2 ≤ b.2) → o ≤ o' →
    ratedFlow curve factor o ≤ ratedFlow curve factor o') ∧
  (∀ (f : Nat → Nat) (target : Int) (a b o : Nat), a ≤ o → o ≤ b → (f o : Int) ≤ target →
    o ≤ upTo f target a b ∧ upTo f target a b ≤ b ∧ (f (upTo f target a b) : Int) ≤ target) ∧
  (∀ (f : Nat → Nat) (target : Int) (a b : Nat), (∀ o, a ≤ o → o ≤ b → target < (f o : Int)) →
    upTo f target a b = a) ∧
  (∀ (f : Nat → Nat) (target : Int) (a b o : Nat), a ≤ o → o ≤ b → target ≤ (f o : Int) →
    downTo f target a b ≤ o ∧ a ≤ downTo f target a b ∧ target ≤ (f (downTo f target a b) : Int)) ∧
  (∀ (f : Nat → Nat) (target : Int) (a b : Nat), (∀ o, a ≤ o → o ≤ b → (f o : Int) < target) →
    downTo f target a b = b)

/-- R46: the elapsed count of an admission is the difference of the current cycle number and the gate's last admission
cycle, held at 255, and 1 for a difference of 0; an urgent admission does not use it; every admission takes the current
cycle as the gate's last admission cycle. -/
def Obligations.ElapsedCountOfAnAdmission : Prop :=
  (∀ c last : BitVec 32, 1 ≤ elapsedCount c last ∧ elapsedCount c last ≤ 255 ∧
    ((c - last).toNat = 0 → elapsedCount c last = 1) ∧
    (1 ≤ (c - last).toNat → (c - last).toNat ≤ 255 → elapsedCount c last = (c - last).toNat) ∧
    (255 < (c - last).toNat → elapsedCount c last = 255)) ∧
  (∀ (s : Machine.State) (g : GateIx) (x : Submission),
    (State.gate (State.admission s g x) g).lastCycle = State.cycle s ∧
    ((State.stages s g x).urgent = true → (State.stages s g x).r1 = (State.stages s g x).r) ∧
    ((State.stages s g x).urgent = false → (State.stages s g x).r1 = clampTo (State.stages s g x).r
      ((State.gate s g).admitted - gateRate s.tst.table g * elapsedCount (State.cycle s) (State.gate s g).lastCycle)
      ((State.gate s g).admitted + gateRate s.tst.table g * elapsedCount (State.cycle s) (State.gate s g).lastCycle)))

/-- R47, R48, R56: the result of every admission lies within the gate's travel limits as installed; one that is not
urgent, of a gate within its travel limits, moves the gate by no more than the rate times the elapsed count. -/
def Obligations.AdmissionStaysInTravelAndRate : Prop :=
  ∀ (s : Machine.State) (g : GateIx) (x : Submission),
    (travelMin s.tst.table g ≤ travelMax s.tst.table g →
      travelMin s.tst.table g ≤ (State.stages s g x).out.result ∧
      (State.stages s g x).out.result ≤ travelMax s.tst.table g ∧
      (State.gate (State.admission s g x) g).admitted = (State.stages s g x).out.result) ∧
    (travelMin s.tst.table g ≤ (State.gate s g).admitted → (State.gate s g).admitted ≤ travelMax s.tst.table g →
      (State.stages s g x).urgent = false →
      distance (State.stages s g x).out.result (State.gate s g).admitted ≤
        gateRate s.tst.table g * elapsedCount (State.cycle s) (State.gate s g).lastCycle)

/-- R43, R44, R47 to R56: what an admission grants. The request is held at 10000, the urgent mark holds only for a
request at or below the admitted opening; the rate stage and the travel stage clamp it; an urgent admission, one that
keeps the flow and one whose prospective tally T' stays within its cap gets the opening r2 they leave. A rise beyond
the larger of U and the tally gets the largest opening from the start s up to r2 whose flow does not pass the target,
a fall beyond the smaller of L and the tally the smallest from r2 to s that reaches it; where no opening meets the
target the gate is held at a with its recorded flow, or goes to s when a lies outside its travel limits. The recorded
flow is rated at the result. So one that is not urgent, of a gate within its travel limits, does not take the tally
past the bound it faces, widened to where the tally stands. R55 moreover excludes the other side, which R51 and R53 do
not (log 26). -/
def Obligations.AdmissionFacesItsBound : Prop :=
  ∀ (s : Machine.State) (g : GateIx) (y : Submission) (x : Stages) (f : Nat → Nat) (a lo hi start q qOld : Nat)
    (cap target after : Int),
    x = State.stages s g y → a = (State.gate s g).admitted → qOld = (State.gate s g).flow →
    lo = travelMin s.tst.table g → hi = travelMax s.tst.table g → f = flowAt s.tst.table g (State.head s) →
    start = min (max a lo) hi → q = f x.r2 →
    after = (s.adu.tally : Int) - qOld + q →
    cap = ((if qOld < q then max s.scu.upper s.adu.tally else min s.scu.lower s.adu.tally : Nat) : Int) →
    target = cap - ((s.adu.tally : Int) - qOld) →
    x.r = min y.request 10000 ∧ x.urgent = (y.urgent && decide (x.r ≤ a)) ∧
    (x.urgent = true → x.r1 = x.r) ∧
    (x.urgent = false → x.r1 = min (max x.r
        (a - gateRate s.tst.table g * elapsedCount (State.cycle s) (State.gate s g).lastCycle))
      (a + gateRate s.tst.table g * elapsedCount (State.cycle s) (State.gate s g).lastCycle)) ∧
    x.r2 = min (max x.r1 lo) hi ∧
    (x.urgent = true ∨ q = qOld ∨ (qOld < q ∧ after ≤ cap) ∨ (q < qOld ∧ cap ≤ after) →
      x.out.result = x.r2 ∧ x.flow = q) ∧
    (x.urgent = false → qOld < q → cap < after →
      (start ≤ x.r2 → (f start : Int) ≤ target →
        x.out.result = upTo f target start x.r2 ∧ x.flow = f x.out.result) ∧
      (x.r2 < start ∨ target < (f start : Int) →
        (lo ≤ a → a ≤ hi → x.out.result = a ∧ x.flow = qOld) ∧
        (a < lo ∨ hi < a → x.out.result = start ∧ x.flow = f start))) ∧
    (x.urgent = false → q < qOld → after < cap →
      (x.r2 ≤ start → target ≤ (f start : Int) →
        x.out.result = downTo f target x.r2 start ∧ x.flow = f x.out.result) ∧
      (start < x.r2 ∨ (f start : Int) < target →
        (lo ≤ a → a ≤ hi → x.out.result = a ∧ x.flow = qOld) ∧
        (a < lo ∨ hi < a → x.out.result = start ∧ x.flow = f start))) ∧
    (lo ≤ a → a ≤ hi → x.urgent = false → qOld ≤ s.adu.tally →
      (qOld < q → (State.admission s g y).adu.tally ≤ max s.scu.upper s.adu.tally) ∧
      (q < qOld → min s.scu.lower s.adu.tally ≤ (State.admission s g y).adu.tally) ∧
      (q = qOld → (State.admission s g y).adu.tally = s.adu.tally))

/-! ### Telemetry, heartbeats, notices and the other frames -/

/-- R9, R23, R24, R26, R22, R39: a POSITION frame in a TELEMETRY slot that is unbound or bound to its gate, of a gate
in ACQUIRE or LOCAL, re-tracks it at the measured opening (at most 10000) without bounds, and its drive status decides
its state: SERVICE, LOCAL, or BLOCKED with cause FAULT. -/
def Obligations.PositionReTracks : Prop :=
  ∀ (s : Machine.State) (f : FrameFields) (g : GateIx) (b m q : Nat) (d : DriveStatus) (st : GateState),
    AtTelemetry s b → (b = 0xFF ∨ b = g.val) → f.id.toNat = g.val →
    ((State.gate s g).state = .acquire ∨ (State.gate s g).state = .localControl) →
    m = min 10000 f.valueA.toNat → q = flowAt s.tst.table g (State.head s) m →
    d = (if f.valueB = 0 then .ok else if f.valueB = 2 then .localControl else .fault) →
    st = (if f.valueB = 0 then .service else if f.valueB = 2 then .localControl else .blocked) →
    ∃ t, exec (.position f) s = .next t ∧
      State.gate t g = { State.gate s g with
        measured := some m, drive := some d, state := st, admitted := m, flow := q, lastCycle := State.cycle s,
        lastDir := .none, causeFault := d == .fault, causeOut := false, devCount := (State.gate t g).devCount,
        deviating := (State.gate t g).deviating } ∧
      (GateOk (State.gate s g) → (State.gate t g).devCount = 0 ∧ (State.gate t g).deviating = false) ∧
      t.adu.tally = (if (State.gate s g).state = .acquire then s.adu.tally + q
        else s.adu.tally + q - (State.gate s g).flow) ∧
      t.ncu = (if st = (State.gate s g).state then s.ncu else Ncu.notify s.ncu (.gateState g st)) ∧
      OtherGatesKept g s t ∧ t.rpu = (tookFrame s (goodFrame kindPosition f)).rpu ∧ t.sqe = s.sqe ∧
      CommandFrameKept s t

/-- R9, R25, R40, R41, R80: a POSITION frame, in a TELEMETRY slot that is unbound or bound to its gate, of a gate in
SERVICE or STALE. OK runs the deviation check; FAULT
blocks the gate at its opening and flow; LOCAL re-tracks it into LOCAL, under LOSS too (R25 against R80,
log 30). -/
def Obligations.PositionOfServedGate : Prop :=
  ∀ (s : Machine.State) (f : FrameFields) (g : GateIx) (b m : Nat) (r : Gate), AtTelemetry s b →
    (b = 0xFF ∨ b = g.val) → f.id.toNat = g.val → r = State.gate s g → (r.state = .service ∨ r.state = .stale) →
    m = min 10000 f.valueA.toNat →
    (f.valueB = 0 → distance m r.admitted ≤ devLimit s.tst.table g →
      exec (.position f) s = .next (tookFrame
        (State.setGate s g { r with measured := some m, drive := some .ok, devCount := 0, deviating := false })
        (goodFrame kindPosition f))) ∧
    (f.valueB = 0 → devLimit s.tst.table g < distance m r.admitted →
      devTime s.tst.table g ≤ min 255 (r.devCount + 1) → r.deviating = false →
      exec (.position f) s = .next (tookFrame
        (State.notify (State.setGate s g { r with
          measured := some m, drive := some .ok, devCount := min 255 (r.devCount + 1), deviating := true })
          (.deviation g))
        (goodFrame kindPosition f))) ∧
    (f.valueB = 0 → devLimit s.tst.table g < distance m r.admitted →
      (min 255 (r.devCount + 1) < devTime s.tst.table g ∨ r.deviating = true) →
      exec (.position f) s = .next (tookFrame
        (State.setGate s g { r with
          measured := some m, drive := some .ok, devCount := min 255 (r.devCount + 1) })
        (goodFrame kindPosition f))) ∧
    (f.valueB ≠ 0 → f.valueB ≠ 2 →
      exec (.position f) s = .next (tookFrame
        (State.notify (State.setGate s g { r with
          measured := some m, drive := some .fault, state := .blocked, causeFault := true, causeOut := false,
          devCount := 0, deviating := false,
          owner := if r.state = .stale ∧ r.owner = .loss then .dispatch else r.owner }) (.gateState g .blocked))
        (goodFrame kindPosition f))) ∧
    (f.valueB = 2 → ∃ t q, exec (.position f) s = .next t ∧ q = flowAt s.tst.table g (State.head s) m ∧
      State.gate t g = { r with
        measured := some m, drive := some .localControl, state := .localControl, causeFault := false,
        causeOut := false, admitted := m, flow := q, lastCycle := State.cycle s, lastDir := .none, devCount := 0,
        deviating := false, owner := if r.state = .stale ∧ r.owner = .loss then .dispatch else r.owner } ∧
      t.adu.tally = s.adu.tally + q - r.flow ∧ t.ncu = Ncu.notify s.ncu (.gateState g .localControl) ∧
      t.rpu = (tookFrame s (goodFrame kindPosition f)).rpu ∧ OtherGatesKept g s t ∧ t.sqe = s.sqe ∧
      CommandFrameKept s t)

/-- R9, R23, R27: a POSITION frame, in a TELEMETRY slot that is unbound or bound to its gate, of a gate in BLOCKED or
VACANT. FAULT joins the causes; OK or LOCAL removes it and, unless OUT remains, re-tracks the gate into SERVICE or
LOCAL: opening, flow, cycle and no last direction (R22), the owner, hold count and the rest as they stood. A VACANT gate
keeps its record. The frame passes and takes its position in every case. -/
def Obligations.PositionOfBlockedOrVacantGate : Prop :=
  ∀ (s : Machine.State) (f : FrameFields) (g : GateIx) (b m : Nat) (r : Gate), AtTelemetry s b →
    (b = 0xFF ∨ b = g.val) → f.id.toNat = g.val → r = State.gate s g → m = min 10000 f.valueA.toNat →
    (r.state = .vacant → exec (.position f) s = .next (tookFrame s (goodFrame kindPosition f))) ∧
    (r.state = .blocked → f.valueB ≠ 0 → f.valueB ≠ 2 →
      exec (.position f) s = .next (tookFrame
        (State.setGate s g { r with measured := some m, drive := some .fault, causeFault := true })
        (goodFrame kindPosition f))) ∧
    (r.state = .blocked → (f.valueB = 0 ∨ f.valueB = 2) → r.causeOut = true →
      exec (.position f) s = .next (tookFrame
        (State.setGate s g { r with
          measured := some m, drive := some (if f.valueB = 0 then .ok else .localControl), causeFault := false })
        (goodFrame kindPosition f))) ∧
    (r.state = .blocked → (f.valueB = 0 ∨ f.valueB = 2) → r.causeOut = false →
      ∃ t q, exec (.position f) s = .next t ∧ q = flowAt s.tst.table g (State.head s) m ∧
        State.gate t g = { r with
          measured := some m, drive := some (if f.valueB = 0 then .ok else .localControl),
          state := if f.valueB = 0 then .service else .localControl, admitted := m, flow := q,
          lastCycle := State.cycle s, lastDir := .none, causeFault := false, causeOut := false,
          devCount := (State.gate t g).devCount, deviating := (State.gate t g).deviating } ∧
        (GateOk r → (State.gate t g).devCount = 0 ∧ (State.gate t g).deviating = false) ∧
        t.adu.tally = s.adu.tally + q - r.flow ∧
        t.ncu = Ncu.notify s.ncu (.gateState g (if f.valueB = 0 then .service else .localControl)) ∧
        t.rpu = (tookFrame s (goodFrame kindPosition f)).rpu ∧ OtherGatesKept g s t ∧ t.sqe = s.sqe ∧
      CommandFrameKept s t)

/-- R9, R33, R98: a STAGE frame in a TELEMETRY slot that is unbound or bound to its gauge. With the bad-quality flag
it only counts a bad reading; without it the level is taken and the age is 0, and a report of the headwater gauge at
or above the flood stage enters FLOOD in NORMAL. In FLOOD a report
of the headwater gauge taken with the entry condition holding sets the exit dwell count to 0, and does no more. -/
def Obligations.StageReportIsTaken : Prop :=
  ∀ (s : Machine.State) (f : FrameFields) (n : GaugeIx) (b : Nat), AtTelemetry s b →
    (b = 0xFF ∨ b = 0x80 + n.val) → f.id.toNat = n.val →
    (f.flags.getLsbD 0 = true →
      exec (.stage f) s = .next (tookFrame
        (State.setGauge s n { s.adu.gauges[n] with bad := min 65535 (s.adu.gauges[n].bad + 1) })
        (goodFrame kindStage f))) ∧
    (f.flags.getLsbD 0 = false → headwaterGauge s.tst.table ≠ n.val →
      exec (.stage f) s = .next (tookFrame
        (State.setGauge s n { s.adu.gauges[n] with level := some f.valueA.toNat, age := 0 })
        (goodFrame kindStage f))) ∧
    (f.flags.getLsbD 0 = false → headwaterGauge s.tst.table = n.val → s.scu.mode = .normal → s.scu.declared = false →
      State.inputActive s .floodAlarm = false → 0 < staleLimit s.tst.table →
      ∃ t, exec (.stage f) s = .next t ∧
        t.adu = (State.setGauge s n { s.adu.gauges[n] with level := some f.valueA.toNat, age := 0 }).adu ∧
        (floodStage s.tst.table ≤ f.valueA.toNat →
          t.scu.mode = .flood ∧ t.scu.exitDwell = 0 ∧ t.ncu = Ncu.notify s.ncu (.mode .flood .stage) ∧ BoundsOk t ∧
          BoundsAlone { s.scu with mode := .flood, exitDwell := 0 } t.scu ∧
          State.floodLine t = true) ∧
        (f.valueA.toNat < floodStage s.tst.table → t.scu = s.scu ∧ t.ncu = s.ncu) ∧
        t.clu = s.clu ∧ t.sqe = s.sqe ∧ t.spu = s.spu ∧ t.mgu = s.mgu ∧ t.tst = s.tst ∧
        t.rpu = (tookFrame s (goodFrame kindStage f)).rpu) ∧
    (f.flags.getLsbD 0 = false → headwaterGauge s.tst.table = n.val → s.scu.mode = .flood →
      0 < staleLimit s.tst.table →
      exec (.stage f) s = .next (tookFrame
        { State.setGauge s n { s.adu.gauges[n] with level := some f.valueA.toNat, age := 0 } with
          scu := { s.scu with
            exitDwell := if State.inputActive s .floodAlarm = true ∨ s.scu.declared = true ∨
              floodStage s.tst.table ≤ f.valueA.toNat then 0 else s.scu.exitDwell } }
        (goodFrame kindStage f)))

/-- R143: a heartbeat taken in PRESENT, after its cycle's window comparison (log 8). In sequence it restarts the
window count; out of sequence it counts HEARTBEAT_ERRORS; either way it becomes the last sequence, and the state
stays. -/
def Obligations.HeartbeatInPresent : Prop :=
  ∀ (s : Machine.State) (x : SlotTable) (f : FrameFields), AtSlot s x .heartbeat → s.handed.window = false →
    s.spu.sup = .present →
    (∀ l, s.spu.lastSeq = some l → f.valueA.extractLsb' 0 4 = l + 1 →
      exec (.heartbeat f) s = .next (tookFrame
        { s with spu := { s.spu with lastSeq := some (f.valueA.extractLsb' 0 4), window := 0 } }
        (goodFrame kindHeartbeat f))) ∧
    (s.spu.lastSeq ≠ some (f.valueA.extractLsb' 0 4 - 1) →
      exec (.heartbeat f) s = .next (tookFrame
        (State.count { s with spu := { s.spu with lastSeq := some (f.valueA.extractLsb' 0 4) } } .heartbeatErrors)
        (goodFrame kindHeartbeat f)))

/-- R144: a heartbeat taken in ABSENT or LOST, after its cycle's window comparison (log 8): a first heartbeat starts a
run; the second in sequence makes the dispatch station PRESENT; out of sequence it is counted and starts anew. -/
def Obligations.HeartbeatWhileNotPresent : Prop :=
  ∀ (s : Machine.State) (x : SlotTable) (f : FrameFields) (q : BitVec 4), AtSlot s x .heartbeat →
    s.handed.window = false → s.spu.sup ≠ .present → q = f.valueA.extractLsb' 0 4 →
    (s.spu.run = false →
      exec (.heartbeat f) s = .next (tookFrame
        { s with spu := { s.spu with run := true, lastSeq := some q, window := 0 } } (goodFrame kindHeartbeat f))) ∧
    (s.spu.run = true → s.spu.lastSeq = some (q - 1) →
      ∃ t, exec (.heartbeat f) s = .next t ∧ State.dispatchFail t = false ∧
        t = tookFrame (State.notify
          { s with spu := { s.spu with sup := .present, run := false, lastSeq := some q, window := 0 } }
          (.dispatch true)) (goodFrame kindHeartbeat f)) ∧
    (s.spu.run = true → s.spu.lastSeq ≠ some (q - 1) →
      exec (.heartbeat f) s = .next (tookFrame
        (State.count { s with spu := { s.spu with lastSeq := some q, window := 0 } } .heartbeatErrors)
        (goodFrame kindHeartbeat f)))

/-- R167, R168, R169: a notice handed to the NCU joins the tail while fewer than 16 are queued, and at 16 is discarded
and raises the lost count, held at 255; a CLAMP whose gate has one queued replaces it in place at every depth, 16
included; nothing else of the NCU changes. R12, R169, R170: a good IDLE frame in the NOTICE slot is replaced by the
oldest notice; the freed place takes a LOST notice when any were lost. With the queue empty the IDLE frame passes. 11
Table 11-3 gives each kind's code, values, tag and flags, in a frame that is good. -/
def Obligations.NoticeLeavesInItsSlot : Prop :=
  (∀ (u : Ncu) (n : Notice), (∀ g c d, n = .clamp g c → Notice.clamp g d ∉ u.queue) →
    (u.queue.length < 16 → Ncu.notify u n = { u with queue := u.queue ++ [n] }) ∧
    (16 ≤ u.queue.length → Ncu.notify u n = { u with lost := min 255 (u.lost + 1) })) ∧
  (∀ (u : Ncu) (g : GateIx) (c old : Clamp) (before behind : List Notice),
    u.queue = before ++ .clamp g old :: behind → (∀ d, Notice.clamp g d ∉ before) →
    Ncu.notify u (.clamp g c) = { u with queue := before ++ .clamp g c :: behind }) ∧
  (∀ (g : GateIx) (c : Clamp), Notice.frame (.clamp g c) = noticeFrame 0 c.requested c.admitted
    (32 * (match c.binding with
      | none => 0 | some .ceiling => 1 | some .rampUp => 2 | some .curtail => 3 | some .floodRamp => 4
      | some .floor => 5 | some .rampDown => 6 | some .inflow => 7) + g.val)
    (match c.reason with | .rate => 0 | .travel => 1 | .upper => 2 | .lower => 3)) ∧
  (∀ (g : GateIx) (st : GateState), Notice.frame (.gateState g st) = noticeFrame 1
    (match st with
      | .vacant => 0 | .acquire => 1 | .service => 2 | .stale => 3 | .blocked => 4 | .localControl => 5) 0 g.val 0) ∧
  (∀ g : GateIx, Notice.frame (.deviation g) = noticeFrame 2 0 0 g.val 0) ∧
  (∀ (m : Mode) (c : ModeCause), Notice.frame (.mode m c) = noticeFrame 3 (if m = .normal then 0 else 1)
    (match c with | .alarm => 0 | .declare => 1 | .stage => 2 | .dwell => 3) 0 0) ∧
  (∀ (l e : Nat) (c : EntryCause), Notice.frame (.engine l e c) = noticeFrame 4 l e
    (match c with | .transition n => n | .restart => 255) 0) ∧
  (∀ (p : Port) (c : LinkCause), Notice.frame (.link p c) = noticeFrame 5 (if p = .up then 0 else 1)
    (match c with | .up => 0 | .down => 1 | .miswired => 2) 0 0) ∧
  (∀ (n : Nat) (ended : Bool), Notice.frame (.schedule n ended) = noticeFrame 6 n (if ended then 1 else 0) 0 0) ∧
  (∀ regained : Bool, Notice.frame (.dispatch regained) = noticeFrame 7 0 (if regained then 1 else 0) 0 0) ∧
  (∀ ms : Nat, Notice.frame (.ring ms) = noticeFrame 8 ms 0 0 0) ∧
  (∀ (op : Operation) (done : Bool), Notice.frame (.store op done) = noticeFrame 9
    (match op with | .store => 0 | .reload => 1 | .commissionLock => 2) (if done then 0 else 1) 0 0) ∧
  Notice.frame .image = noticeFrame 10 0 0 0 0 ∧ (∀ n : Nat, Notice.frame (.lost n) = noticeFrame 11 n 0 0 0) ∧
  (∀ (code a b tag : Nat) (flags : BitVec 4), Frame.good (noticeFrame code a b tag flags) = true) ∧
  (∀ (s : Machine.State) (x : SlotTable) (f : FrameFields), AtSlot s x .notice →
    (∀ n rest, s.ncu.queue = n :: rest → s.ncu.lost = 0 →
      exec (.noticeSlot f) s = .next (tookFrame { s with ncu := { s.ncu with queue := rest } } (Notice.frame n))) ∧
    (∀ n rest, s.ncu.queue = n :: rest → 0 < s.ncu.lost →
      exec (.noticeSlot f) s = .next (tookFrame
        { s with ncu := { s.ncu with queue := rest ++ [.lost s.ncu.lost], lost := 0 } } (Notice.frame n))) ∧
    (s.ncu.queue = [] → exec (.noticeSlot f) s = .next (tookFrame s (goodFrame kindIdle f))))

/-- R1, R7, R14, R18, R19: a frame that is no marker, taken where it has no slot. In LOAD it passes uncounted, in SYNC
and RING_LOST it is counted by its check and kind, beyond position S - 1 it is an excess frame; a SETPOINT leaves as
a blank IDLE frame, and nothing else of the part changes (outside a
cycle the slot position neither: log 25, the model's choice). -/
def Obligations.FramesWithoutSlot : Prop :=
  ∀ (s : Machine.State) (f o : Frame) (u : Machine.State), o = (if f.kind = kindSetpoint then blankIdle else f) →
    u = State.countIf s (!Frame.good f) .badCheck →
    (s.rpu.state = .load →
      exec (.frameInLoad f) s = .next { s with rpu := { s.rpu with ringOut := some o } }) ∧
    (s.rpu.state ≠ .load → s.rpu.active = none → s.handed.ages = false → Frame.isMarker f = false →
      exec (.frameOutsideCycle f) s = .next
        { (State.countIf u (Frame.good f && f.kind == kindSetpoint) .misrouted) with
          rpu := { s.rpu with ringOut := some o } }) ∧
    (∀ x, s.rpu.state = .run → s.rpu.active = some x → x.count ≤ s.rpu.slotPos → s.handed.ages = false →
      Frame.isMarker f = false →
      exec (.excessFrame f) s = .next (tookFrame
        (State.countIf (State.count u .excessFrames) (Frame.good f && f.kind == kindSetpoint) .misrouted) o))

/-- R1, R7 to R13: a good SETPOINT outside its COMMAND slot counts MISROUTED and leaves as a blank IDLE frame; a
bad-check frame counts BAD_CHECK and passes (a SETPOINT as a blank IDLE frame), but draws a NAK_CHECK reply in the
MANAGEMENT slot. In a COMMAND slot the ADU's frame leaves in the place of any frame, misrouted and bad-check ones
counted. A POSITION or STAGE report whose id is out of range, or which its TELEMETRY slot's binding does not admit, a
report, heartbeat or IDLE frame in a slot of another role, and any other frame that its slot's owner does not take,
passes unchanged. -/
def Obligations.FramesInOtherSlots : Prop :=
  ∀ (s : Machine.State) (x : SlotTable) (role : Role) (b : Nat), AtSlot s x role →
    b = entryBinding (SlotTable.entry x s.rpu.slotPos) →
    (∀ f : FrameFields, role ≠ .command →
      exec (.misrouted f) s = .next (tookFrame (State.count s .misrouted) blankIdle)) ∧
    (∀ (f : FrameFields) (g : GateIx), role = .command → b = g.val →
      f.id.toNat ≠ g.val → ∃ t, exec (.misrouted f) s = .next t ∧ AduFrameLeft g t ∧
        State.counter t .misrouted = min 65535 (State.counter s .misrouted + 1) ∧
        State.counter t .refused = State.counter s .refused) ∧
    (∀ (f : Frame) (g : GateIx), role = .command → b = g.val → Frame.good f = false →
      ∃ t, exec (.badCheckFrame f) s = .next t ∧ AduFrameLeft g t ∧
        State.counter t .badCheck = min 65535 (State.counter s .badCheck + 1) ∧
        State.counter t .misrouted = State.counter s .misrouted ∧
        State.counter t .refused = State.counter s .refused) ∧
    (∀ (f : FrameFields) (o : Frame) (g : GateIx) (c : Instr), role = .command → b = g.val →
      Frame.isMarker o = false →
      c ∈ [Instr.position f, .stage f, .heartbeat f, .noticeSlot f, .untappedFrame o, .commandSlotFrame o] →
      ∃ t, exec c s = .next t ∧ AduFrameLeft g t) ∧
    (∀ f : Frame, Frame.good f = false → role = .management →
      exec (.badCheckFrame f) s = .next (tookFrame (State.count s .badCheck)
        (goodFrame kindMgmtReply ⟨0, 8, 0, 0, f.tag⟩))) ∧
    (∀ f : Frame, Frame.good f = false → role ≠ .management → role ≠ .command →
      exec (.badCheckFrame f) s = .next (tookFrame (State.count s .badCheck)
        (if f.kind = kindSetpoint then blankIdle else f))) ∧
    (∀ f : FrameFields, role ≠ .command →
      (role ≠ .telemetry ∨ 24 ≤ f.id.toNat ∨ (b ≠ 0xFF ∧ b ≠ f.id.toNat)) →
      exec (.position f) s = .next (tookFrame s (goodFrame kindPosition f))) ∧
    (∀ f : FrameFields, role ≠ .command →
      (role ≠ .telemetry ∨ 8 ≤ f.id.toNat ∨ (b ≠ 0xFF ∧ b ≠ 0x80 + f.id.toNat)) →
      exec (.stage f) s = .next (tookFrame s (goodFrame kindStage f))) ∧
    (∀ f : FrameFields, role ≠ .command → role ≠ .heartbeat →
      exec (.heartbeat f) s = .next (tookFrame s (goodFrame kindHeartbeat f))) ∧
    (∀ f : FrameFields, role ≠ .command → role ≠ .notice →
      exec (.noticeSlot f) s = .next (tookFrame s (goodFrame kindIdle f))) ∧
    (∀ f : Frame, Frame.good f = true → f.kind ≠ kindCycle → f.kind ≠ kindSetpoint →
      (role = .unused ∨ (role = .telemetry ∧ f.kind ≠ kindPosition ∧ f.kind ≠ kindStage) ∨
        (role = .heartbeat ∧ f.kind ≠ kindHeartbeat) ∨ (role = .notice ∧ f.kind ≠ kindIdle) ∨
        (role = .management ∧ f.kind ≠ kindMgmtReq)) →
      exec (.untappedFrame f) s = .next (tookFrame s f))

/-! ### The cascade links and the panel inputs -/

/-- R104, R107 to R109: receipt on a link port. The sender a port expects is the station index less one (up) or plus
one (down), none at the ends. An absent port discards everything, messages of every kind. On a present port a
bad-check message, and the bytes of a message broken off, count LINK_REJECTS; a miswired message counts it too and
queues one notice per run; a valid message makes the port UP with the silence count 0, a DOWN port queuing a LINK
notice first, and a BEACON does no more, while a message that neither port takes counts LINK_REJECTS; a RELEASE,
CURTAIL or TAKEN is then disposed of as on the port so made UP. -/
def Obligations.LinkReceipt : Prop :=
  ∀ (s : Machine.State) (p : Port) (m : LinkMsg) (r : LinkPort) (v : Machine.State), r = State.port s p →
    v = (if r.state = .up then State.setPort s p { r with miswired := false, silence := 0 }
      else State.notify (State.setPort s p { r with miswired := false, silence := 0, state := .up }) (.link p .up)) →
    (r.state = .absent → exec (.badCheckMessage p m) s = .next s ∧ exec (.miswiredMessage p m) s = .next s ∧
      (∀ f, exec (.beacon p f) s = .next s ∧ exec (.taken p f) s = .next s ∧
        (p = .up → exec (.release f) s = .next s) ∧ (p = .down → exec (.curtail f) s = .next s) ∧
        ∀ kind, exec (.wrongDirectionMessage p kind f) s = .next s) ∧
      (∀ n, exec (.linkByteTimeout p n) s = .next s)) ∧
    (expectedSender s.tst.table .up =
      if stationIndex s.tst.table = 0 then none else some (stationIndex s.tst.table - 1)) ∧
    (stationIndex s.tst.table ≤ 7 → expectedSender s.tst.table .down =
      if stationIndex s.tst.table = 7 then none else some (stationIndex s.tst.table + 1)) ∧
    (∀ f, r.state ≠ .absent → expectedSender s.tst.table p = some f.sender.toNat →
      (State.port v p).state = .up ∧ exec (.taken p f) s = exec (.taken p f) v ∧
      (p = .up → exec (.release f) s = exec (.release f) v) ∧
      (p = .down → exec (.curtail f) s = exec (.curtail f) v)) ∧
    (r.state ≠ .absent → LinkMsg.good m = false →
      exec (.badCheckMessage p m) s = .next (State.count s .linkRejects)) ∧
    (∀ n, r.state ≠ .absent → 0 < n → n < 12 →
      exec (.linkByteTimeout p n) s = .next (State.count s .linkRejects)) ∧
    (r.state ≠ .absent → LinkMsg.good m = true → expectedSender s.tst.table p ≠ some m.sender.toNat →
      exec (.miswiredMessage p m) s = .next (if r.miswired then State.count s .linkRejects
        else State.notify (State.setPort (State.count s .linkRejects) p { r with miswired := true })
          (.link p .miswired))) ∧
    (∀ f, r.state ≠ .absent → expectedSender s.tst.table p = some f.sender.toNat →
      exec (.beacon p f) s = .next v) ∧
    (∀ kind f, r.state ≠ .absent → expectedSender s.tst.table p = some f.sender.toNat →
      (kind = msgRelease ∧ p = .down ∨ kind = msgCurtail ∧ p = .up ∨ kind = 0 ∨ 4 < kind.toNat) →
      exec (.wrongDirectionMessage p kind f) s = .next (State.count v .linkRejects))

/-- R109 to R113: the outbound register. A valid TAKEN on a present port, a DOWN port having come UP with its LINK
notice, empties the register when it matches the message that has left, and the deferred message moves in with the
next tag; any other TAKEN changes neither. The TAKEN timeout does the same to an outstanding message that has left,
once the TAKEN count, raised by the tick in progress, reaches its limit, and counts it. The silence expiry, once the
silence count so raised reaches its limit, takes the port DOWN, dropping and counting both messages and dropping the
replies. Each of the two commands takes its count's part of the tick before the rest of it, and no second time (log 2,
the model's choice), and changes nothing below the limit. A TAKEN count that does not run stands at 0 (log 32, the
model's choice). -/
def Obligations.OutboundRegister : Prop :=
  ∀ (s w : Machine.State) (p : Port) (r next : LinkPort), r = State.port s p →
    w = (if r.state = .up then s else State.notify s (.link p .up)) →
    next = (match r.deferred with
      | some d => { r with
          register := some ⟨d, r.tagCount, .waiting⟩, deferred := none,
          tagCount := if r.tagCount = 255 then 1 else r.tagCount + 1, takenCount := 0 }
      | none => { r with register := none, takenCount := 0 }) →
    (∀ f o, r.state ≠ .absent → expectedSender s.tst.table p = some f.sender.toNat → r.register = some o →
      o.phase = .left → f.flags = DataKind.code o.msg.kind → f.tag = o.tag →
      exec (.taken p f) s = .next (State.setPort w p { next with miswired := false, silence := 0, state := .up })) ∧
    (∀ f, r.state ≠ .absent → expectedSender s.tst.table p = some f.sender.toNat →
      (∀ o, r.register = some o → o.phase ≠ .left ∨ f.flags ≠ DataKind.code o.msg.kind ∨ f.tag ≠ o.tag) →
      exec (.taken p f) s = .next (State.setPort w p { r with miswired := false, silence := 0, state := .up })) ∧
    (∀ o, r.register = some o → o.phase = .left → TickPart.taken p ∉ s.handed.ticked →
      takenTimeoutLimit s.tst.table ≤ r.takenCount + 1 →
      exec (.takenTimeout p) s = .next { State.count (State.setPort s p next) .linkTimeouts with
        handed := { s.handed with ticked := s.handed.ticked ++ [.taken p] } }) ∧
    ((∀ o, r.register = some o → o.phase ≠ .left) ∨ r.takenCount + 1 < takenTimeoutLimit s.tst.table ∨
        TickPart.taken p ∈ s.handed.ticked →
      exec (.takenTimeout p) s = .next s) ∧
    (r.state = .up → TickPart.silence p ∉ s.handed.ticked →
      silenceLimit s.tst.table ≤ min 65535 (r.silence + 1) →
      ∃ t, exec (.silenceExpiry p) s = .next t ∧
        State.port t p = { r with
          state := .down, silence := min 65535 (r.silence + 1), register := none, takenCount := 0, deferred := none,
          replies := [] } ∧
        t.ncu.queue = (Ncu.notify s.ncu (.link p .down)).queue ∧
        t.ncu.lost = (Ncu.notify s.ncu (.link p .down)).lost ∧ CountersKept [.linkTimeouts] s.ncu t.ncu ∧
        State.counter t .linkTimeouts = State.counter (State.countIf
          (State.countIf s r.register.isSome .linkTimeouts) r.deferred.isSome .linkTimeouts) .linkTimeouts ∧
        (∀ k, k ≠ p → State.port t k = State.port s k) ∧ t.clu.arrivals = s.clu.arrivals ∧
        t.handed = { s.handed with ticked := s.handed.ticked ++ [.silence p] } ∧
        t.clu.inflow = s.clu.inflow ∧ t.adu = s.adu ∧ t.scu = s.scu ∧ t.sqe = s.sqe ∧ t.spu = s.spu ∧ t.rpu = s.rpu ∧
        t.mgu = s.mgu ∧ t.tst = s.tst) ∧
    (r.state ≠ .up ∨ min 65535 (r.silence + 1) < silenceLimit s.tst.table ∨ TickPart.silence p ∈ s.handed.ticked →
      exec (.silenceExpiry p) s = .next s)

/-- R101, R109, R116 to R120: a valid RELEASE on a present up port is filed under its due interval (in place of an
entry that shares it, in due order below 64 entries, or with the head maturing early), and a valid CURTAIL on a
present down port sets or cancels the curtailment record; either is answered with a TAKEN of its kind and tag when
fewer than two wait. A DOWN port first comes UP, with a LINK notice. -/
def Obligations.ReleaseAndCurtailAreTaken : Prop :=
  (∀ (s : Machine.State) (f : LinkFields) (e : Arrival) (w : Ncu), s.clu.up.state ≠ .absent →
    w = (if s.clu.up.state = .up then s.ncu else Ncu.notify s.ncu (.link .up .up)) →
    expectedSender s.tst.table .up = some f.sender.toNat →
    e = ⟨s.scu.intervalNumber, s.scu.intervalNumber + BitVec.ofNat 32 (linkLag s.tst.table), f.value.toNat,
      f.flags.getLsbD 0, f.dur⟩ →
    ∃ t, exec (.release f) s = .next t ∧
      t.clu.up = { s.clu.up with
        state := .up, miswired := false, silence := 0,
        replies := if s.clu.up.replies.length < 2 then s.clu.up.replies ++ [⟨msgRelease, f.tag⟩]
          else s.clu.up.replies } ∧
      t.clu.down = s.clu.down ∧
      ((∃ x ∈ s.clu.arrivals, x.due = e.due) →
        t.clu.arrivals = s.clu.arrivals.map (fun x => if x.due = e.due then e else x) ∧
        t.clu.inflow = s.clu.inflow ∧ t.scu = s.scu ∧ t.ncu = w) ∧
      ((∀ x ∈ s.clu.arrivals, x.due ≠ e.due) → s.clu.arrivals.length < 64 →
        t.clu.arrivals = s.clu.arrivals.takeWhile (fun x => dueBefore x.due e.due) ++
          e :: s.clu.arrivals.dropWhile (fun x => dueBefore x.due e.due) ∧
        t.clu.inflow = s.clu.inflow ∧ t.scu = s.scu ∧ t.ncu = w) ∧
      (∀ x rest, (∀ y ∈ s.clu.arrivals, y.due ≠ e.due) → 64 ≤ s.clu.arrivals.length →
        s.clu.arrivals = x :: rest →
        t.clu.arrivals = rest.takeWhile (fun y => dueBefore y.due e.due) ++
          e :: rest.dropWhile (fun y => dueBefore y.due e.due) ∧
        t.clu.inflow = some ⟨x.discharge, x.flood, x.source⟩ ∧ BoundsOk t ∧ BoundsAlone s.scu t.scu ∧
        t.ncu.queue = w.queue ∧ t.ncu.lost = w.lost ∧ CountersKept [.queueEarly] s.ncu t.ncu ∧
        State.counter t .queueEarly = min 65535 (State.counter s .queueEarly + 1)) ∧
      t.adu = s.adu ∧ t.sqe = s.sqe ∧ t.spu = s.spu ∧ t.rpu = s.rpu ∧ t.mgu = s.mgu ∧ t.tst = s.tst ∧
      t.handed = s.handed) ∧
  (∀ (s : Machine.State) (f : LinkFields), s.clu.down.state ≠ .absent →
    expectedSender s.tst.table .down = some f.sender.toNat →
    ∃ t, exec (.curtail f) s = .next t ∧
      (f.dur = 0 → t.scu.curtailLeft = 0 ∧ t.scu.curtailCeiling = s.scu.curtailCeiling) ∧
      (f.dur ≠ 0 → t.scu.curtailLeft = min 255 f.dur.toNat ∧ t.scu.curtailCeiling = f.value.toNat) ∧ BoundsOk t ∧
      BoundsAlone { s.scu with curtailLeft := t.scu.curtailLeft, curtailCeiling := t.scu.curtailCeiling } t.scu ∧
      t.clu = { s.clu with down := { s.clu.down with
        state := .up, miswired := false, silence := 0,
        replies := if s.clu.down.replies.length < 2 then s.clu.down.replies ++ [⟨msgCurtail, f.tag⟩]
          else s.clu.down.replies } } ∧
      t.ncu = (if s.clu.down.state = .up then s.ncu else Ncu.notify s.ncu (.link .down .up)) ∧
      t.adu = s.adu ∧ t.sqe = s.sqe ∧ t.spu = s.spu ∧ t.rpu = s.rpu ∧ t.mgu = s.mgu ∧ t.tst = s.tst ∧
      t.handed = s.handed)

/-- R105, R106, R111, R112, R123: the line of a port falls free. A message of the register that was on it has left,
and its TAKEN count starts at 0. On a present port the oldest TAKEN reply then leaves, else the register's message not
yet sent, else a BEACON that is due, each with the station index, its FLOOD flag and a matching check; an absent port
falls silent. A BEACON falls due on a present port when the time since the last, raised by the tick in progress, comes
to 100 ms; the command takes this part of the tick before the rest of it, and no second time (log 2, the model's
choice). -/
def Obligations.TransmitterOrder : Prop :=
  ∀ (s : Machine.State) (p : Port) (r r0 : LinkPort) (index flood : Byte), r = State.port s p →
    r0 = (match r.register with
      | some ⟨m, tag, .onLine⟩ => { r with register := some ⟨m, tag, .left⟩, takenCount := 0, line := none }
      | _ => { r with line := none }) →
    index = BitVec.ofNat 8 (stationIndex s.tst.table) → flood = (if s.scu.mode = .flood then 1 else 0) →
    (r.state = .absent → exec (.linkTransmit p) s = .next (State.setPort s p r0)) ∧
    (r.state ≠ .absent →
      (∀ a rest, r.replies = a :: rest → ∃ m, exec (.linkTransmit p) s =
        .next (State.setPort s p { r0 with replies := rest, line := some m }) ∧ LinkMsg.good m = true ∧
        m.kind = msgTaken ∧ m.sender = index ∧ m.tag = a.tag ∧ m.flags = a.kind ∧ m.value = 0 ∧ m.dur = 0) ∧
      (∀ o, r.replies = [] → r.register = some o → o.phase = .waiting → ∃ m, exec (.linkTransmit p) s =
        .next (State.setPort s p { r0 with register := some { o with phase := .onLine }, line := some m }) ∧
        LinkMsg.good m = true ∧ m.kind = DataKind.code o.msg.kind ∧ m.sender = index ∧ m.tag = o.tag ∧
        m.flags = flood ∧ m.value = o.msg.value ∧ m.dur = o.msg.dur) ∧
      (r.replies = [] → (∀ o, r.register = some o → o.phase ≠ .waiting) → r.beaconDue = true →
        ∃ m, exec (.linkTransmit p) s = .next (State.setPort s p { r0 with beaconDue := false, line := some m }) ∧
        LinkMsg.good m = true ∧ m.kind = msgBeacon ∧ m.sender = index ∧ m.tag = 0 ∧ m.flags = flood ∧ m.value = 0 ∧
        m.dur = s.scu.intervalNumber.extractLsb' 0 16) ∧
      (r.replies = [] → (∀ o, r.register = some o → o.phase ≠ .waiting) → r.beaconDue = false →
        exec (.linkTransmit p) s = .next (State.setPort s p r0))) ∧
    (r.state ≠ .absent → TickPart.beacon p ∉ s.handed.ticked → 100 ≤ r.beaconTimer + 1 →
      exec (.beaconDue p) s = .next { State.setPort s p { r with
          beaconTimer := r.beaconTimer + 1 - 100, beaconDue := true } with
        handed := { s.handed with ticked := s.handed.ticked ++ [.beacon p] } }) ∧
    (r.state = .absent ∨ r.beaconTimer + 1 < 100 ∨ TickPart.beacon p ∈ s.handed.ticked →
      exec (.beaconDue p) s = .next s)

/-- R147, R148, R72, R98, 08 Table 8-2: each tick takes one sample of each panel input at the level of its pin, and
none while RESET_N is asserted; the filtered level follows a pin that stands at the other level at the fourth tick,
and not at the third. The command gives the pin its level; with its sample it takes this tick's sample ahead of the
rest of the tick, and no second time, without it the sample stays with the tick (logs 2 and 10, the model's choice).
In LOAD a change is not handed on. MAINT_ENABLE acts on no other block; a trip line taken active gives the WICKET
gates of its unit to TRIP, and taken inactive gives them on, the engine target of a gate that goes to DISPATCH staying
in its field (log 16, the model's reading); FLOOD_ALARM taken active in NORMAL enters FLOOD, and in FLOOD sets the
exit dwell count to 0. -/
def Obligations.PanelFilterTakesFourSamples : Prop :=
  (∀ s : Machine.State, s.pending = [] → ∃ t, step s = .next t ∧ ∀ i, State.panel t i = panelTicked s i) ∧
  (∀ (s : Machine.State) (i : PanelInput) (r : PanelLine), s.pending = [] → s.handed.ticked = [] →
    s.tst.resetAsserted = false → r = State.panel s i → r.pin ≠ r.level → r.count = 0 →
    ∃ a b c d, step s = .next a ∧ step a = .next b ∧ step b = .next c ∧ step c = .next d ∧
      State.panel c i = { r with count := 3 } ∧ State.panel d i = { r with level := r.pin }) ∧
  (∀ (s : Machine.State) (i : PanelInput) (level sampled : Bool) (r : PanelLine) (u : Machine.State),
    r = State.panel s i →
    u = { State.setPanel s i (panelSampled { r with pin := level }) with
      handed := { s.handed with ticked := s.handed.ticked ++ [.sample i] } } →
    (sampled = false ∨ s.tst.resetAsserted = true ∨ TickPart.sample i ∈ s.handed.ticked →
      exec (.panelInputChange i level sampled) s = .next (State.setPanel s i { r with pin := level })) ∧
    (sampled = true → s.tst.resetAsserted = false → TickPart.sample i ∉ s.handed.ticked →
      level = r.level ∨ r.count + 1 < 4 → exec (.panelInputChange i level sampled) s = .next u) ∧
    (sampled = true → s.tst.resetAsserted = false → TickPart.sample i ∉ s.handed.ticked → level ≠ r.level →
      4 ≤ r.count + 1 →
      ∃ t, exec (.panelInputChange i level sampled) s = .next t ∧ State.panel t i = ⟨level, level, 0⟩ ∧
        (s.rpu.state = .load ∨ i = .maintEnable → t = u) ∧
        (∀ k, s.rpu.state ≠ .load → i = .trip k → level = true →
          (∀ g, State.gate t g = if wicketOf s.tst.table g k.val then { State.gate s g with owner := .trip }
            else State.gate s g) ∧ OwnershipOk t ∧ t.scu = s.scu) ∧
        (∀ k, s.rpu.state ≠ .load → i = .trip k → level = false →
          (∀ g, State.gate t g =
            if (State.gate s g).owner = .trip ∧ wicketOf s.tst.table g k.val = true then
              (match ActionList.find (actionList s.tst.table s.sqe.current) g with
                | some a => if (State.gate s g).released then { State.gate s g with owner := .dispatch }
                  else { State.gate s g with owner := .engine, target := some a }
                | none => { State.gate s g with owner := .dispatch })
            else State.gate s g) ∧ OwnershipOk t ∧ t.scu = s.scu) ∧
        (s.rpu.state ≠ .load → i = .floodAlarm → level = true → s.scu.mode = .normal →
          t.scu.mode = .flood ∧ t.scu.exitDwell = 0 ∧ BoundsOk t ∧
          BoundsAlone { s.scu with mode := .flood, exitDwell := 0 } t.scu ∧
          t.ncu = Ncu.notify s.ncu (.mode .flood .alarm) ∧ t.sqe = s.sqe ∧ t.adu = s.adu) ∧
        (s.rpu.state ≠ .load → i = .floodAlarm → level = true → s.scu.mode = .flood →
          t = { u with scu := { s.scu with exitDwell := 0 } }) ∧
        (i = .floodAlarm → level = false → t = u) ∧ (i ≠ .floodAlarm → t.ncu = s.ncu) ∧ t.spu = u.spu ∧
        t.sqe = { s.sqe with owned := t.sqe.owned } ∧ t.adu.base = s.adu.base ∧
        t.handed = u.handed ∧ t.adu.tally = s.adu.tally ∧ t.adu.gauges = s.adu.gauges ∧ t.clu = s.clu ∧
        t.rpu = s.rpu ∧ t.mgu = s.mgu ∧ t.tst = s.tst))

/-! ### Management requests -/

/-- R150, R151, R157, R11, for every command of the table that brings a management request, NAK_OP_REQUEST standing
for any op byte (a frame is taken as it arrives, log 5, the model's choice): the status is that of the first of the
seven tests that fails (NAK_OP 7, NAK_RANGE 1, NAK_LOCKED 2, NAK_MAINT 6, NAK_BUSY 3, NAK_EDIT 4, NAK_INVALID 5), and
OK when none does. A request answered with any other status changes nothing: no pointer, word, buffer, lock, counter
or operation. A NAK carries value A as received, or for READ_NEXT and WRITE_NEXT the space bit and the pointer, and
value B 0; NAK_INVALID the word at fault and the reason. -/
def Obligations.RefusedRequestChangesNothing : Prop :=
  ∀ (s : Machine.State) (c : Instr) (op : Byte) (q : Request), managementRequest c = some (op, q) → AtManagement s →
    ∃ t a b st, exec c s = .next t ∧ t.rpu.ringOut = some (replyFrame st a b q.tag) ∧
      (OpFails op q → st = 7) ∧
      (¬ OpFails op q → RangeFails s op q → st = 1) ∧
      (¬ OpFails op q → ¬ RangeFails s op q → LockFails s op q → st = 2) ∧
      (¬ OpFails op q → ¬ RangeFails s op q → ¬ LockFails s op q → MaintFails s op q → st = 6) ∧
      (¬ OpFails op q → ¬ RangeFails s op q → ¬ LockFails s op q → ¬ MaintFails s op q → BusyFails s op q → st = 3) ∧
      (¬ OpFails op q → ¬ RangeFails s op q → ¬ LockFails s op q → ¬ MaintFails s op q → ¬ BusyFails s op q →
        EditFails s op q → st = 4) ∧
      (¬ OpFails op q → ¬ RangeFails s op q → ¬ LockFails s op q → ¬ MaintFails s op q → ¬ BusyFails s op q →
        ¬ EditFails s op q →
        (∀ w why, InvalidAt s op w why → st = 5 ∧ a = BitVec.ofNat 16 w ∧ b = BitVec.ofNat 16 (Reason.code why)) ∧
        ((∀ w why, ¬ InvalidAt s op w why) → st = 0)) ∧
      (st ≠ 0 → t = tookFrame s (replyFrame st a b q.tag)) ∧
      (st ≠ 0 → st ≠ 5 → b = 0 ∧ (op ≠ 2 → op ≠ 4 → a = q.valueA) ∧
        (op = 2 ∨ op = 4 → ¬ OpFails op q →
          a = BitVec.ofNat 16 ((if q.valueA.getLsbD 15 then 0x8000 else 0) + requestAddress s op q)))

/-- R150, R152, R153: READ answers the word as its owner holds it and changes nothing; READ_NEXT reads at the pointer
of its space and advances it; SET_POINTER sets it. A STATE address reads the live state, laid out as 11 Table 11-8
says, an unused word and a queue position beyond the count reading 0; a TABLE address reads the installed word, or the
buffer's where the group is open, but for the request area (R155, R162). -/
def Obligations.ReadsAndPointers : Prop :=
  (∀ s : Machine.State,
    (∀ g : GateIx, stateWords s (16 * g.val) 16 = gateStateWords (State.gate s g)) ∧
    (∀ n : Fin 8, stateWords s (0x180 + 4 * n.val) 4 = gaugeStateWords s.adu.gauges[n]) ∧
    stateWords s 0x1A0 32 = List.replicate 32 0 ∧
    stateWords s 0x1C0 39 = scuStateWords s ∧ stateWords s 0x1E7 20 = List.replicate 20 0 ∧
    (∀ i : Fin 64, (State.stateWord s (0x1FB + i.val / 16)).getLsbD (i.val % 16) =
      ((s.clu.arrivals[i.val]?).map Arrival.flood).getD false) ∧
    State.stateWord s 0x1FF = BitVec.ofNat 16 s.clu.arrivals.length ∧
    (∀ i : Fin 64, stateWords s (0x200 + 4 * i.val) 4 =
      (match s.clu.arrivals[i.val]? with
        | some e => arrivalStateWords e
        | none => [0, 0, 0, 0])) ∧
    stateWords s 0x300 7 = [BitVec.ofNat 16 s.sqe.current, BitVec.ofNat 16 s.sqe.dwell, bitWord s.sqe.held,
      bitWord s.sqe.stepPending, BitVec.ofNat 16 s.sqe.lastLeft, BitVec.ofNat 16 s.sqe.lastEntered,
      (match s.sqe.lastCause with | .transition n => BitVec.ofNat 16 n | .restart => 255)] ∧
    (∀ k : GateIx, (State.stateWord s (if k.val < 16 then 0x308 else 0x307)).getLsbD (k.val % 16) =
      s.sqe.owned.contains k) ∧
    stateWords s 0x320 4 = [(match s.spu.sup with | .absent => 0 | .present => 1 | .lost => 2),
      (match s.spu.lastSeq with | some q => q.setWidth 16 | none => 0xFFFF), bitWord s.spu.run,
      BitVec.ofNat 16 s.spu.window] ∧
    (∀ i : Fin 8, (State.stateWord s 0x324).getLsbD i.val =
      (s.rpu.state != .load && s.spu.inputs[i].level)) ∧
    stateWords s 0x328 8 = portStateWords s.clu.up ∧ stateWords s 0x330 8 = portStateWords s.clu.down ∧
    (∀ i : Fin 18, State.stateWord s (0x340 + i.val) = BitVec.ofNat 16 s.ncu.bank.station[i]) ∧
    (∀ g : GateIx, stateWords s (0x380 + 3 * g.val) 3 =
      twoWords s.ncu.bank.travel[g] ++ oneWord s.ncu.bank.reversals[g]) ∧
    stateWords s 0x400 2 = [BitVec.ofNat 16 s.ncu.queue.length, BitVec.ofNat 16 s.ncu.lost] ∧
    stateWords s 0x410 9 = mguStateWords s.mgu ∧
    (State.stateWord s 0x307).extractLsb' 8 8 = 0 ∧ (State.stateWord s 0x324).extractLsb' 8 8 = 0 ∧
    stateWords s 0x309 23 = List.replicate 23 0 ∧ stateWords s 0x325 3 = List.replicate 3 0 ∧
    stateWords s 0x338 8 = List.replicate 8 0 ∧
    stateWords s 0x352 46 = List.replicate 46 0 ∧ stateWords s 0x3C8 56 = List.replicate 56 0 ∧
    stateWords s 0x402 14 = List.replicate 14 0 ∧ stateWords s 0x419 7 = List.replicate 7 0) ∧
  (∀ (s : Machine.State) (q : Request) (a : Nat), AtManagement s → q.valueA.extractLsb' 12 4 = 8 →
    a = (q.valueA.extractLsb' 0 12).toNat → a ≤ 0x41F →
    exec (.read q) s = .next (tookFrame s (reply .ok q.valueA (State.stateWord s a) q.tag))) ∧
  (∀ (s : Machine.State) (q : Request) (a n : Nat) (w : Word), AtManagement s → q.valueA.extractLsb' 12 4 = 0 →
    a = (q.valueA.extractLsb' 0 12).toNat → groupOf a = some n →
    ((∀ e, s.mgu.buffer = some e → e.group ≠ n) ∨ inRequestArea a = true → w = WordStore.read s.tst.table a) →
    (∀ e, s.mgu.buffer = some e → e.group = n → inRequestArea a = false → w = WordStore.read e.words a) →
    exec (.read q) s = .next (tookFrame s (reply .ok q.valueA w q.tag))) ∧
  (∀ (s : Machine.State) (q : Request), AtManagement s → q.valueA.extractLsb' 12 4 = 8 →
    s.mgu.statePtr.toNat ≤ 0x41F →
    exec (.readNext q) s = .next (tookFrame { s with mgu := { s.mgu with statePtr := s.mgu.statePtr + 1 } }
      (reply .ok (0x8000 + s.mgu.statePtr.setWidth 16) (State.stateWord s s.mgu.statePtr.toNat) q.tag))) ∧
  (∀ (s : Machine.State) (q : Request) (a n : Nat) (w : Word), AtManagement s → q.valueA.extractLsb' 12 4 = 0 →
    a = s.mgu.tablePtr.toNat → usedWord a = true → groupOf a = some n →
    ((∀ e, s.mgu.buffer = some e → e.group ≠ n) ∨ inRequestArea a = true → w = WordStore.read s.tst.table a) →
    (∀ e, s.mgu.buffer = some e → e.group = n → inRequestArea a = false → w = WordStore.read e.words a) →
    exec (.readNext q) s = .next (tookFrame { s with mgu := { s.mgu with tablePtr := s.mgu.tablePtr + 1 } }
      (reply .ok (s.mgu.tablePtr.setWidth 16) w q.tag))) ∧
  (∀ (s : Machine.State) (q : Request), AtManagement s → q.valueA.extractLsb' 12 4 = 0 →
    (q.valueA.extractLsb' 0 12).toNat ≤ 0x74F →
    exec (.setPointer q) s = .next (tookFrame
      { s with mgu := { s.mgu with tablePtr := q.valueA.extractLsb' 0 12 } } (reply .ok q.valueA 0 q.tag))) ∧
  (∀ (s : Machine.State) (q : Request), AtManagement s → q.valueA.extractLsb' 12 4 = 8 →
    (q.valueA.extractLsb' 0 12).toNat ≤ 0x41F →
    exec (.setPointer q) s = .next (tookFrame
      { s with mgu := { s.mgu with statePtr := q.valueA.extractLsb' 0 12 } } (reply .ok q.valueA 0 q.tag)))

/-- R155, R162: OPEN_EDIT copies a group that the lock level does not guard (R159) into the closed buffer; WRITE and
WRITE_NEXT change a used word of the open group in the buffer alone, or a word of the request area in the installed
group alone; ABANDON closes the buffer. -/
def Obligations.EditsAndWrites : Prop :=
  (∀ (s : Machine.State) (q : Request), AtManagement s → q.valueB.toNat ≤ 76 →
    ¬ GroupLocked s.mgu.lock q.valueB.toNat →
    s.mgu.op = none → s.mgu.buffer = none →
    ∃ e, exec (.openEdit q) s = .next (tookFrame { s with mgu := { s.mgu with buffer := some e } }
        (reply .ok q.valueA q.valueB q.tag)) ∧
      e.group = q.valueB.toNat ∧
      (WordStore.wf s.tst.table = true → ∀ a, groupOf a = some e.group →
        WordStore.read e.words a = WordStore.read s.tst.table a)) ∧
  (∀ (s : Machine.State) (q : Request) (e : EditBuffer) (a : Nat), AtManagement s →
    q.valueA.extractLsb' 12 4 = 0 → a = (q.valueA.extractLsb' 0 12).toNat → usedWord a = true →
    inRequestArea a = false → s.mgu.buffer = some e → groupOf a = some e.group →
    exec (.write q) s = .next (tookFrame
      { s with mgu := { s.mgu with buffer := some { e with words := WordStore.write e.words a q.valueB } } }
      (reply .ok q.valueA q.valueB q.tag))) ∧
  (∀ (s : Machine.State) (q : Request) (a : Nat), AtManagement s → s.mgu.lock ≠ .full →
    q.valueA.extractLsb' 12 4 = 0 → a = (q.valueA.extractLsb' 0 12).toNat → inRequestArea a = true →
    (a = 0x74E ∨ q.valueB.toNat ≤ 255) →
    exec (.write q) s = .next (tookFrame
      { s with tst := { s.tst with table := WordStore.write s.tst.table a q.valueB } }
      (reply .ok q.valueA q.valueB q.tag))) ∧
  (∀ (s : Machine.State) (q : Request) (e : EditBuffer) (a : Nat), AtManagement s →
    q.valueA.extractLsb' 12 4 = 0 → a = s.mgu.tablePtr.toNat → usedWord a = true → inRequestArea a = false →
    s.mgu.buffer = some e → groupOf a = some e.group →
    exec (.writeNext q) s = .next (tookFrame
      { s with mgu := { s.mgu with
          buffer := some { e with words := WordStore.write e.words a q.valueB }, tablePtr := s.mgu.tablePtr + 1 } }
      (reply .ok (s.mgu.tablePtr.setWidth 16) q.valueB q.tag))) ∧
  (∀ (s : Machine.State) (q : Request) (a : Nat), AtManagement s → s.mgu.lock ≠ .full →
    q.valueA.extractLsb' 12 4 = 0 → a = s.mgu.tablePtr.toNat → inRequestArea a = true →
    (a = 0x74E ∨ q.valueB.toNat ≤ 255) →
    exec (.writeNext q) s = .next (tookFrame
      { s with
        tst := { s.tst with table := WordStore.write s.tst.table a q.valueB },
        mgu := { s.mgu with tablePtr := s.mgu.tablePtr + 1 } }
      (reply .ok (s.mgu.tablePtr.setWidth 16) q.valueB q.tag))) ∧
  (∀ (s : Machine.State) (q : Request) (e : EditBuffer), AtManagement s → s.mgu.buffer = some e → e.group ≤ 76 →
    exec (.abandon q) s = .next (tookFrame { s with mgu := { s.mgu with buffer := none } }
      (reply .ok q.valueA (BitVec.ofNat 16 e.group) q.tag)))

/-- R156, R157, R158: validation passes just where no word of the group is at fault by 09 Table 9-5 (`FaultAt`); it
names a word at fault with its reason, and of several the lowest, a repeated role or a binding after all others
(log 15, the model's reading where the table leaves the word open). CHECK of an open group that no lock forbids: a
group at fault is answered with NAK_INVALID, the word's address and the reason, and nothing changes; a valid one is
installed whole, but for the request area, and the buffer is closed. Every install keeps the bindings of the installed
groups consistent, and one of STATION or SLOTS makes them so (09 section 9.5). What each install does besides: a GATE
group what its gate takes (R30, R31); an ENGINE group restarts the engine, an evaluation that is owed staying owed
(R138); a STATION group takes an entry test in full, in FLOOD restarting the exit dwell count (R98, log 28), in NORMAL
entering FLOOD also where its stale limit alone makes the headwater gauge fresh (log 34, the model's reading of R98),
and recomputes the bounds (R103), a window comparison that is owed being taken first (R142, log 8); a LINK group makes
ports present in DOWN or absent, dropping and counting their messages, with a LINK notice for a port that was UP
(R123; the up port's notice first, log 17, and what logs 20 and 32 say of a port's other fields: the model's choice).
-/
def Obligations.CheckInstallsTheGroup : Prop :=
  (∀ (n : Nat) (b installed : WordStore), n ≤ 76 →
    (validate n b installed = none ↔ ∀ a why, ¬ FaultAt n b installed a why) ∧
    (∀ a why, validate n b installed = some (a, why) → FaultAt n b installed a why ∧
      ∀ a' why', FaultAt n b installed a' why' → why' ≠ .roleDuplicate → why' ≠ .binding →
        a ≤ a' ∧ why ≠ .roleDuplicate ∧ why ≠ .binding)) ∧
  (∀ (s : Machine.State) (q : Request) (e : EditBuffer), AtManagement s → s.mgu.buffer = some e → e.group ≤ 76 →
    Lock.forbidsGroup s.mgu.lock e.group = false → s.mgu.op = none →
    (∀ a why, validate e.group e.words s.tst.table = some (a, why) →
      exec (.check q) s = .next (tookFrame s
        (reply .nakInvalid (BitVec.ofNat 16 a) (BitVec.ofNat 16 (Reason.code why)) q.tag))) ∧
    (validate e.group e.words s.tst.table = none → WordStore.wf s.tst.table = true →
      ∃ t u v : Machine.State, exec (.check q) s = .next t ∧ exec .supervisionWindowExpiry s = .next u ∧
        v = { s with tst := t.tst } ∧ t.mgu = { s.mgu with buffer := none } ∧
        t.rpu = (tookFrame s (reply .ok (BitVec.ofNat 16 (groupBase e.group)) (BitVec.ofNat 16 e.group) q.tag)).rpu ∧
        (∀ a, groupOf a = some e.group → inRequestArea a = false →
          WordStore.read t.tst.table a = WordStore.read e.words a) ∧
        (∀ a, groupOf a ≠ some e.group ∨ inRequestArea a = true →
          WordStore.read t.tst.table a = WordStore.read s.tst.table a) ∧
        (e.group = 0 ∨ e.group = 1 ∨ BindingsOk s.tst.table → BindingsOk t.tst.table) ∧
        t.tst = { s.tst with table := t.tst.table } ∧
        (∀ g : GateIx, e.group = 2 + g.val → t.adu = (State.installGate v g).adu ∧
          t.ncu = (State.installGate v g).ncu) ∧
        (∀ g : GateIx, e.group ≠ 2 + g.val → State.gate t g = State.gate s g) ∧
        (e.group ≠ 75 → t.sqe = s.sqe) ∧
        (e.group = 75 →
          t.sqe = { s.sqe with
            current := initialState t.tst.table, dwell := 0, lastLeft := s.sqe.current,
            lastEntered := initialState t.tst.table, lastCause := .restart,
            seqA := levelA t.tst.table (initialState t.tst.table),
            seqB := levelB t.tst.table (initialState t.tst.table) } ∧
          t.ncu.queue = (Ncu.notify s.ncu (.engine s.sqe.current (initialState t.tst.table) .restart)).queue ∧
          t.ncu.lost = (Ncu.notify s.ncu (.engine s.sqe.current (initialState t.tst.table) .restart)).lost ∧
          CountersKept [.engineTransitions] s.ncu t.ncu ∧
          State.counter t .engineTransitions = min 65535 (State.counter s .engineTransitions + 1) ∧
          t.handed = { s.handed with
            actions := s.handed.actions ++ [actionList t.tst.table (initialState t.tst.table)],
            curtails := s.handed.curtails ++ (curtailUpOf t.tst.table (initialState t.tst.table)).toList }) ∧
        (e.group ≠ 0 → t.scu = s.scu ∧ t.spu = s.spu) ∧
        (e.group = 0 → BoundsOk t ∧ t.spu = u.spu ∧ t.handed = u.handed ∧ t.scu.limits = s.scu.limits ∧
          t.scu.cursor = s.scu.cursor ∧ t.scu.source = s.scu.source ∧ t.scu.declared = s.scu.declared ∧
          t.scu.intervalNumber = s.scu.intervalNumber ∧ t.scu.cycleCount = s.scu.cycleCount ∧
          t.scu.intervalLength = s.scu.intervalLength ∧ t.scu.curtailCeiling = s.scu.curtailCeiling ∧
          t.scu.curtailLeft = s.scu.curtailLeft ∧
          EntryTested s t.tst.table t.scu ∧
          t.ncu = (entryNotices s t.tst.table).foldl Ncu.notify u.ncu) ∧
        (e.group ≠ 76 → t.clu = s.clu) ∧
        (e.group = 76 → t.clu.inflow = s.clu.inflow ∧ t.clu.arrivals = s.clu.arrivals ∧
          (∀ p : Port, PortInstalled t.tst.table p (State.port s p) (State.port t p)) ∧
          t.ncu.queue = ((linkNotices s t.tst.table).foldl Ncu.notify s.ncu).queue ∧
          t.ncu.lost = ((linkNotices s t.tst.table).foldl Ncu.notify s.ncu).lost ∧
          CountersKept [.linkTimeouts] s.ncu t.ncu ∧
          State.counter t .linkTimeouts = raised (State.counter s .linkTimeouts) (linkDrops s t.tst.table)) ∧
        ((e.group = 1 ∨ (26 ≤ e.group ∧ e.group < 75)) → t.ncu = s.ncu) ∧
        (e.group ≠ 0 → e.group ≠ 75 → t.handed = s.handed) ∧ ((∀ g : GateIx, e.group ≠ 2 + g.val) → t.adu = s.adu) ∧
        t.adu.base = s.adu.base ∧ t.adu.gauges = s.adu.gauges ∧ t.pending = s.pending))

/-- R30, R31, R32: what the install of a GATE group does to its gate: kind ABSENT empties it into VACANT and takes its
flow from the tally; a present kind brings a VACANT gate to ACQUIRE and leaves any other as it stands. The
opening, flow and hold count of a gate emptied under LOSS become 0, as R30 says against R80 (log 30). -/
def Obligations.GateInstallActsOnItsGate : Prop :=
  ∀ (s : Machine.State) (g : GateIx),
    (gateKind s.tst.table g = .absent → ∃ t, State.installGate s g = t ∧
      State.gate t g = { State.gate s g with
        state := .vacant, causeFault := false, causeOut := false, admitted := 0, flow := 0, lastDir := .none,
        measured := none, drive := none, holdCount := 0, devCount := 0, deviating := false,
        owner := if (State.gate s g).owner = .loss then .dispatch else (State.gate s g).owner } ∧
      t.adu.tally = (if GateState.counted (State.gate s g).state then s.adu.tally - (State.gate s g).flow
        else s.adu.tally) ∧
      t.ncu = (if (State.gate s g).state = .vacant then s.ncu else Ncu.notify s.ncu (.gateState g .vacant)) ∧
      OtherGatesKept g s t) ∧
    (gateKind s.tst.table g ≠ .absent → (State.gate s g).state = .vacant → ∃ t, State.installGate s g = t ∧
      State.gate t g = { State.gate s g with state := .acquire } ∧ t.adu.tally = s.adu.tally ∧
      t.ncu = Ncu.notify s.ncu (.gateState g .acquire) ∧ OtherGatesKept g s t) ∧
    (gateKind s.tst.table g ≠ .absent → (State.gate s g).state ≠ .vacant → State.installGate s g = s)

/-- R171: one increase of a station counter raises that counter alone, held at 65535. R172, R154: CAPTURE copies every
counter into the bank, and with data 1 then clears every counter, at every lock level and whatever operation is in
flight; nothing else changes. -/
def Obligations.CaptureCopiesCounters : Prop :=
  (∀ (s : Machine.State) (c : Counter), State.counter (State.count s c) c = min 65535 (State.counter s c + 1) ∧
    CountersKept [c] s.ncu (State.count s c).ncu ∧ State.count s c = { s with ncu := { s.ncu with
      counters := (State.count s c).ncu.counters } }) ∧
  ∀ (s : Machine.State) (q : Request), AtManagement s →
    (q.valueB = 0 → exec (.capture q) s = .next (tookFrame
      { s with ncu := { s.ncu with bank := s.ncu.counters } } (reply .ok q.valueA 0 q.tag))) ∧
    (q.valueB = 1 → exec (.capture q) s = .next (tookFrame
      { s with ncu := { s.ncu with bank := s.ncu.counters, counters := {} } } (reply .ok q.valueA 1 q.tag)))

/-! ### Management commands -/

/-- R134 to R137: the engine's run control, when no evaluation is owed (log 8): ENGINE_HOLD at every lock level, the
others below FULL, ENGINE_STEP with MAINT_ENABLE active. -/
def Obligations.EngineRunControl : Prop :=
  ∀ (s : Machine.State) (q : CommandRequest), AtManagement s → s.handed.evaluation = false →
    exec (.engineHold q) s = .next (tookFrame
      { s with sqe := { s.sqe with held := true, stepPending := false } } (commandReply 0 q)) ∧
    (s.mgu.lock ≠ .full → exec (.engineRun q) s = .next (tookFrame
      { s with sqe := { s.sqe with held := false, stepPending := false } } (commandReply 1 q))) ∧
    (s.mgu.lock ≠ .full → State.inputActive s .maintEnable = true → exec (.engineStep q) s = .next (tookFrame
      { s with sqe := { s.sqe with stepPending := true } } (commandReply 2 q))) ∧
    (s.mgu.lock ≠ .full → ∃ t i, exec (.engineRestart q) s = .next t ∧ i = initialState s.tst.table ∧
      t.rpu = (tookFrame s (commandReply 3 q)).rpu ∧
      t.sqe = { s.sqe with
        current := i, dwell := 0, lastLeft := s.sqe.current, lastEntered := i, lastCause := .restart,
        seqA := levelA s.tst.table i, seqB := levelB s.tst.table i } ∧
      t.ncu.queue = (Ncu.notify s.ncu (.engine s.sqe.current i .restart)).queue ∧
      t.ncu.lost = (Ncu.notify s.ncu (.engine s.sqe.current i .restart)).lost ∧
      CountersKept [.engineTransitions] s.ncu t.ncu ∧
      State.counter t .engineTransitions = min 65535 (State.counter s .engineTransitions + 1) ∧
      t.handed = { s.handed with
        actions := s.handed.actions ++ [actionList s.tst.table i],
        curtails := s.handed.curtails ++ (curtailUpOf s.tst.table i).toList } ∧
      t.adu = s.adu ∧ t.scu = s.scu ∧ t.clu = s.clu ∧ t.spu = s.spu ∧ t.mgu = s.mgu ∧ t.tst = s.tst)

/-- R159 to R161, R163 to R165: LOCK_RAISE raises the level by one and holds it at FULL; LOCK_LOWER, with MAINT_ENABLE
active and no commission flag, takes LIMITS to OPEN and leaves OPEN. STORE, RELOAD and COMMISSION_LOCK start their
operations; a STORE marks the image as being rewritten, its words, level and flag copy kept (log 14, the model's
choice); COMMISSION_LOCK sets both flags and holds the level at LIMITS or above, or does nothing when set. -/
def Obligations.LockAndStoreCommands : Prop :=
  ∀ (s : Machine.State) (q : CommandRequest),
    (AtManagement s → s.mgu.op = none → exec (.lockRaise q) s = .next (tookFrame
      { s with mgu := { s.mgu with lock := if s.mgu.lock = .open then .limits else .full } } (commandReply 6 q))) ∧
    (Accepts s → s.mgu.commission = false → State.inputActive s .maintEnable = true →
      exec (.lockLower q) s = .next (tookFrame
        { s with mgu := { s.mgu with lock := .open } } (commandReply 7 q))) ∧
    (Accepts s → exec (.store q) s = .next (tookFrame { s with
      tst := { s.tst with image := { s.tst.image with good := false } }, mgu := { s.mgu with op := some .store } }
      (commandReply 4 q))) ∧
    (Accepts s → exec (.reload q) s = .next (tookFrame
      { s with mgu := { s.mgu with op := some .reload } } (commandReply 5 q))) ∧
    (Accepts s → s.mgu.commission = false → exec (.commissionLock q) s = .next (tookFrame { s with
      tst := { s.tst with storedFlag := true },
      mgu := { s.mgu with commission := true, op := some .commissionLock, lock := .limits } } (commandReply 8 q))) ∧
    (Accepts s → s.mgu.commission = true →
      exec (.commissionLock q) s = .next (tookFrame s (commandReply 8 q)))

/-- R28, R29, R32, R39, R41, R80: GATE_OUT blocks a gate where it stands, a gate in ACQUIRE joining the tally with its
recorded flow; GATE_IN takes OUT away, and with no cause left sends the gate to ACQUIRE and its flow out of the tally.
-/
def Obligations.GateOutAndIn : Prop :=
  ∀ (s : Machine.State) (q : CommandRequest) (g : GateIx) (r : Gate), AtManagement s → s.mgu.lock ≠ .full →
    q.arg.toNat = g.val → r = State.gate s g →
    (r.state = .vacant → exec (.gateOut q) s = .next (tookFrame s (commandReply 9 q))) ∧
    (r.state = .blocked → exec (.gateOut q) s = .next (tookFrame
      (State.setGate s g { r with causeOut := true }) (commandReply 9 q))) ∧
    (r.state ≠ .vacant → r.state ≠ .blocked → exec (.gateOut q) s = .next (tookFrame
      (State.notify (State.setGate
        (if r.state = .acquire then State.setTally s (s.adu.tally + r.flow) else s) g
        { r with state := .blocked, causeOut := true, devCount := 0, deviating := false,
                 owner := if r.state = .stale ∧ r.owner = .loss then .dispatch else r.owner })
        (.gateState g .blocked)) (commandReply 9 q))) ∧
    (r.state = .blocked → r.causeOut = true → r.causeFault = false →
      exec (.gateIn q) s = .next (tookFrame
        (State.notify (State.setGate (State.setTally s (s.adu.tally - r.flow)) g
          { r with state := .acquire, causeOut := false, admitted := 0, flow := 0, lastDir := .none,
                   devCount := 0, deviating := false }) (.gateState g .acquire)) (commandReply 10 q))) ∧
    (r.state = .blocked → r.causeOut = true → r.causeFault = true →
      exec (.gateIn q) s = .next (tookFrame (State.setGate s g { r with causeOut := false }) (commandReply 10 q))) ∧
    (r.state ≠ .blocked ∨ r.causeOut = false → exec (.gateIn q) s = .next (tookFrame s (commandReply 10 q)))

/-- R92, R93, R96 to R98: SCHEDULE_START n puts the cursor at block n with its full duration, latches its limits,
recomputes the bounds and queues its notice; the interval clock is not touched. FLOOD_DECLARE sets the declaration; in
NORMAL the station enters FLOOD with a MODE notice, in FLOOD the exit dwell count becomes 0. FLOOD_CANCEL clears the
declaration and nothing else. -/
def Obligations.ScheduleAndFloodCommands : Prop :=
  ∀ (s : Machine.State) (q : CommandRequest), AtManagement s → s.mgu.lock ≠ .full →
    (∀ n : Nat, q.arg.toNat = n → n ≤ 31 → ∃ t, exec (.scheduleStart q) s = .next t ∧
      t.scu.cursor = .block n (blockDuration s.tst.table n) ∧ t.scu.limits = blockLimits s.tst.table n ∧
      t.scu.source = some n ∧ t.scu.intervalNumber = s.scu.intervalNumber ∧ t.scu.cycleCount = s.scu.cycleCount ∧
      t.scu.intervalLength = s.scu.intervalLength ∧ t.scu.mode = s.scu.mode ∧
      t.scu.curtailCeiling = s.scu.curtailCeiling ∧ t.scu.curtailLeft = s.scu.curtailLeft ∧ BoundsOk t ∧
      BoundsAlone { s.scu with cursor := t.scu.cursor, limits := t.scu.limits, source := t.scu.source } t.scu ∧
      t.ncu = Ncu.notify s.ncu (.schedule n false) ∧ t.rpu = (tookFrame s (commandReply 11 q)).rpu ∧
      t.adu = s.adu ∧ t.clu = s.clu ∧ t.sqe = s.sqe ∧ t.spu = s.spu ∧ t.mgu = s.mgu ∧ t.tst = s.tst ∧
      t.handed = s.handed) ∧
    (s.scu.mode = .normal → ∃ t, exec (.floodDeclare q) s = .next t ∧ t.scu.declared = true ∧ t.scu.mode = .flood ∧
      t.scu.exitDwell = 0 ∧ BoundsOk t ∧ State.floodLine t = true ∧
      BoundsAlone { s.scu with declared := true, mode := .flood, exitDwell := 0 } t.scu ∧ t.handed = s.handed ∧
      t.ncu = Ncu.notify s.ncu
        (.mode .flood (if State.inputActive s .floodAlarm then .alarm else .declare)) ∧
      t.scu.limits = s.scu.limits ∧ t.scu.cursor = s.scu.cursor ∧ t.adu = s.adu ∧ t.clu = s.clu ∧ t.sqe = s.sqe ∧
      t.spu = s.spu ∧ t.mgu = s.mgu ∧ t.tst = s.tst ∧ t.rpu = (tookFrame s (commandReply 12 q)).rpu) ∧
    (s.scu.mode = .flood → exec (.floodDeclare q) s = .next (tookFrame
      { s with scu := { s.scu with declared := true, exitDwell := 0 } } (commandReply 12 q))) ∧
    exec (.floodCancel q) s = .next (tookFrame
      { s with scu := { s.scu with declared := false } } (commandReply 13 q))

end
end

