-- ==== Sys2Proof/Laws/State.lean ====
section
/-! SUPPORT. The small lemmas of the named updates: what each leaves alone, field by field, and what it reads
back as. -/

namespace Sys2Proof.Machine

/-! ### `State.setGate` -/

@[simp] theorem State.setGate_rpu (s : State) (g : GateIx) (r : Gate) :
    (State.setGate s g r).rpu = s.rpu := rfl

@[simp] theorem State.setGate_scu (s : State) (g : GateIx) (r : Gate) :
    (State.setGate s g r).scu = s.scu := rfl

@[simp] theorem State.setGate_clu (s : State) (g : GateIx) (r : Gate) :
    (State.setGate s g r).clu = s.clu := rfl

@[simp] theorem State.setGate_sqe (s : State) (g : GateIx) (r : Gate) :
    (State.setGate s g r).sqe = s.sqe := rfl

@[simp] theorem State.setGate_spu (s : State) (g : GateIx) (r : Gate) :
    (State.setGate s g r).spu = s.spu := rfl

@[simp] theorem State.setGate_mgu (s : State) (g : GateIx) (r : Gate) :
    (State.setGate s g r).mgu = s.mgu := rfl

@[simp] theorem State.setGate_tst (s : State) (g : GateIx) (r : Gate) :
    (State.setGate s g r).tst = s.tst := rfl

@[simp] theorem State.setGate_ncu (s : State) (g : GateIx) (r : Gate) :
    (State.setGate s g r).ncu = s.ncu := rfl

@[simp] theorem State.setGate_handed (s : State) (g : GateIx) (r : Gate) :
    (State.setGate s g r).handed = s.handed := rfl

@[simp] theorem State.setGate_freeCount (s : State) (g : GateIx) (r : Gate) :
    (State.setGate s g r).freeCount = s.freeCount := rfl

@[simp] theorem State.setGate_pending (s : State) (g : GateIx) (r : Gate) :
    (State.setGate s g r).pending = s.pending := rfl

/-! ### `State.mapGates` -/

@[simp] theorem State.mapGates_rpu (s : State) (f : GateIx → Gate → Gate) :
    (State.mapGates s f).rpu = s.rpu := rfl

@[simp] theorem State.mapGates_scu (s : State) (f : GateIx → Gate → Gate) :
    (State.mapGates s f).scu = s.scu := rfl

@[simp] theorem State.mapGates_clu (s : State) (f : GateIx → Gate → Gate) :
    (State.mapGates s f).clu = s.clu := rfl

@[simp] theorem State.mapGates_sqe (s : State) (f : GateIx → Gate → Gate) :
    (State.mapGates s f).sqe = s.sqe := rfl

@[simp] theorem State.mapGates_spu (s : State) (f : GateIx → Gate → Gate) :
    (State.mapGates s f).spu = s.spu := rfl

@[simp] theorem State.mapGates_mgu (s : State) (f : GateIx → Gate → Gate) :
    (State.mapGates s f).mgu = s.mgu := rfl

@[simp] theorem State.mapGates_tst (s : State) (f : GateIx → Gate → Gate) :
    (State.mapGates s f).tst = s.tst := rfl

@[simp] theorem State.mapGates_ncu (s : State) (f : GateIx → Gate → Gate) :
    (State.mapGates s f).ncu = s.ncu := rfl

@[simp] theorem State.mapGates_handed (s : State) (f : GateIx → Gate → Gate) :
    (State.mapGates s f).handed = s.handed := rfl

@[simp] theorem State.mapGates_freeCount (s : State) (f : GateIx → Gate → Gate) :
    (State.mapGates s f).freeCount = s.freeCount := rfl

@[simp] theorem State.mapGates_pending (s : State) (f : GateIx → Gate → Gate) :
    (State.mapGates s f).pending = s.pending := rfl

/-! ### `State.setTally` -/

@[simp] theorem State.setTally_rpu (s : State) (n : Nat) :
    (State.setTally s n).rpu = s.rpu := rfl

@[simp] theorem State.setTally_scu (s : State) (n : Nat) :
    (State.setTally s n).scu = s.scu := rfl

@[simp] theorem State.setTally_clu (s : State) (n : Nat) :
    (State.setTally s n).clu = s.clu := rfl

@[simp] theorem State.setTally_sqe (s : State) (n : Nat) :
    (State.setTally s n).sqe = s.sqe := rfl

@[simp] theorem State.setTally_spu (s : State) (n : Nat) :
    (State.setTally s n).spu = s.spu := rfl

@[simp] theorem State.setTally_mgu (s : State) (n : Nat) :
    (State.setTally s n).mgu = s.mgu := rfl

@[simp] theorem State.setTally_tst (s : State) (n : Nat) :
    (State.setTally s n).tst = s.tst := rfl

@[simp] theorem State.setTally_ncu (s : State) (n : Nat) :
    (State.setTally s n).ncu = s.ncu := rfl

@[simp] theorem State.setTally_handed (s : State) (n : Nat) :
    (State.setTally s n).handed = s.handed := rfl

@[simp] theorem State.setTally_freeCount (s : State) (n : Nat) :
    (State.setTally s n).freeCount = s.freeCount := rfl

@[simp] theorem State.setTally_pending (s : State) (n : Nat) :
    (State.setTally s n).pending = s.pending := rfl

/-! ### `State.setGauge` -/

@[simp] theorem State.setGauge_rpu (s : State) (g : GaugeIx) (r : Gauge) :
    (State.setGauge s g r).rpu = s.rpu := rfl

@[simp] theorem State.setGauge_scu (s : State) (g : GaugeIx) (r : Gauge) :
    (State.setGauge s g r).scu = s.scu := rfl

@[simp] theorem State.setGauge_clu (s : State) (g : GaugeIx) (r : Gauge) :
    (State.setGauge s g r).clu = s.clu := rfl

@[simp] theorem State.setGauge_sqe (s : State) (g : GaugeIx) (r : Gauge) :
    (State.setGauge s g r).sqe = s.sqe := rfl

@[simp] theorem State.setGauge_spu (s : State) (g : GaugeIx) (r : Gauge) :
    (State.setGauge s g r).spu = s.spu := rfl

@[simp] theorem State.setGauge_mgu (s : State) (g : GaugeIx) (r : Gauge) :
    (State.setGauge s g r).mgu = s.mgu := rfl

@[simp] theorem State.setGauge_tst (s : State) (g : GaugeIx) (r : Gauge) :
    (State.setGauge s g r).tst = s.tst := rfl

@[simp] theorem State.setGauge_ncu (s : State) (g : GaugeIx) (r : Gauge) :
    (State.setGauge s g r).ncu = s.ncu := rfl

@[simp] theorem State.setGauge_handed (s : State) (g : GaugeIx) (r : Gauge) :
    (State.setGauge s g r).handed = s.handed := rfl

@[simp] theorem State.setGauge_freeCount (s : State) (g : GaugeIx) (r : Gauge) :
    (State.setGauge s g r).freeCount = s.freeCount := rfl

@[simp] theorem State.setGauge_pending (s : State) (g : GaugeIx) (r : Gauge) :
    (State.setGauge s g r).pending = s.pending := rfl

/-! ### `State.setPort` -/

@[simp] theorem State.setPort_rpu (s : State) (p : Port) (r : LinkPort) :
    (State.setPort s p r).rpu = s.rpu := by cases p <;> rfl

@[simp] theorem State.setPort_adu (s : State) (p : Port) (r : LinkPort) :
    (State.setPort s p r).adu = s.adu := by cases p <;> rfl

@[simp] theorem State.setPort_scu (s : State) (p : Port) (r : LinkPort) :
    (State.setPort s p r).scu = s.scu := by cases p <;> rfl

@[simp] theorem State.setPort_sqe (s : State) (p : Port) (r : LinkPort) :
    (State.setPort s p r).sqe = s.sqe := by cases p <;> rfl

@[simp] theorem State.setPort_spu (s : State) (p : Port) (r : LinkPort) :
    (State.setPort s p r).spu = s.spu := by cases p <;> rfl

@[simp] theorem State.setPort_mgu (s : State) (p : Port) (r : LinkPort) :
    (State.setPort s p r).mgu = s.mgu := by cases p <;> rfl

@[simp] theorem State.setPort_tst (s : State) (p : Port) (r : LinkPort) :
    (State.setPort s p r).tst = s.tst := by cases p <;> rfl

@[simp] theorem State.setPort_ncu (s : State) (p : Port) (r : LinkPort) :
    (State.setPort s p r).ncu = s.ncu := by cases p <;> rfl

@[simp] theorem State.setPort_handed (s : State) (p : Port) (r : LinkPort) :
    (State.setPort s p r).handed = s.handed := by cases p <;> rfl

@[simp] theorem State.setPort_freeCount (s : State) (p : Port) (r : LinkPort) :
    (State.setPort s p r).freeCount = s.freeCount := by cases p <;> rfl

@[simp] theorem State.setPort_pending (s : State) (p : Port) (r : LinkPort) :
    (State.setPort s p r).pending = s.pending := by cases p <;> rfl

/-! ### `State.setPanel` -/

@[simp] theorem State.setPanel_rpu (s : State) (i : PanelInput) (r : PanelLine) :
    (State.setPanel s i r).rpu = s.rpu := rfl

@[simp] theorem State.setPanel_adu (s : State) (i : PanelInput) (r : PanelLine) :
    (State.setPanel s i r).adu = s.adu := rfl

@[simp] theorem State.setPanel_scu (s : State) (i : PanelInput) (r : PanelLine) :
    (State.setPanel s i r).scu = s.scu := rfl

@[simp] theorem State.setPanel_clu (s : State) (i : PanelInput) (r : PanelLine) :
    (State.setPanel s i r).clu = s.clu := rfl

@[simp] theorem State.setPanel_sqe (s : State) (i : PanelInput) (r : PanelLine) :
    (State.setPanel s i r).sqe = s.sqe := rfl

@[simp] theorem State.setPanel_mgu (s : State) (i : PanelInput) (r : PanelLine) :
    (State.setPanel s i r).mgu = s.mgu := rfl

@[simp] theorem State.setPanel_tst (s : State) (i : PanelInput) (r : PanelLine) :
    (State.setPanel s i r).tst = s.tst := rfl

@[simp] theorem State.setPanel_ncu (s : State) (i : PanelInput) (r : PanelLine) :
    (State.setPanel s i r).ncu = s.ncu := rfl

@[simp] theorem State.setPanel_handed (s : State) (i : PanelInput) (r : PanelLine) :
    (State.setPanel s i r).handed = s.handed := rfl

@[simp] theorem State.setPanel_freeCount (s : State) (i : PanelInput) (r : PanelLine) :
    (State.setPanel s i r).freeCount = s.freeCount := rfl

@[simp] theorem State.setPanel_pending (s : State) (i : PanelInput) (r : PanelLine) :
    (State.setPanel s i r).pending = s.pending := rfl

/-! ### `State.setCounters` -/

@[simp] theorem State.setCounters_rpu (s : State) (c : Counters) :
    (State.setCounters s c).rpu = s.rpu := rfl

@[simp] theorem State.setCounters_adu (s : State) (c : Counters) :
    (State.setCounters s c).adu = s.adu := rfl

@[simp] theorem State.setCounters_scu (s : State) (c : Counters) :
    (State.setCounters s c).scu = s.scu := rfl

@[simp] theorem State.setCounters_clu (s : State) (c : Counters) :
    (State.setCounters s c).clu = s.clu := rfl

@[simp] theorem State.setCounters_sqe (s : State) (c : Counters) :
    (State.setCounters s c).sqe = s.sqe := rfl

@[simp] theorem State.setCounters_spu (s : State) (c : Counters) :
    (State.setCounters s c).spu = s.spu := rfl

@[simp] theorem State.setCounters_mgu (s : State) (c : Counters) :
    (State.setCounters s c).mgu = s.mgu := rfl

@[simp] theorem State.setCounters_tst (s : State) (c : Counters) :
    (State.setCounters s c).tst = s.tst := rfl

@[simp] theorem State.setCounters_handed (s : State) (c : Counters) :
    (State.setCounters s c).handed = s.handed := rfl

@[simp] theorem State.setCounters_freeCount (s : State) (c : Counters) :
    (State.setCounters s c).freeCount = s.freeCount := rfl

@[simp] theorem State.setCounters_pending (s : State) (c : Counters) :
    (State.setCounters s c).pending = s.pending := rfl

/-! ### `State.count` -/

@[simp] theorem State.count_rpu (s : State) (c : Counter) :
    (State.count s c).rpu = s.rpu := rfl

@[simp] theorem State.count_adu (s : State) (c : Counter) :
    (State.count s c).adu = s.adu := rfl

@[simp] theorem State.count_scu (s : State) (c : Counter) :
    (State.count s c).scu = s.scu := rfl

@[simp] theorem State.count_clu (s : State) (c : Counter) :
    (State.count s c).clu = s.clu := rfl

@[simp] theorem State.count_sqe (s : State) (c : Counter) :
    (State.count s c).sqe = s.sqe := rfl

@[simp] theorem State.count_spu (s : State) (c : Counter) :
    (State.count s c).spu = s.spu := rfl

@[simp] theorem State.count_mgu (s : State) (c : Counter) :
    (State.count s c).mgu = s.mgu := rfl

@[simp] theorem State.count_tst (s : State) (c : Counter) :
    (State.count s c).tst = s.tst := rfl

@[simp] theorem State.count_handed (s : State) (c : Counter) :
    (State.count s c).handed = s.handed := rfl

@[simp] theorem State.count_freeCount (s : State) (c : Counter) :
    (State.count s c).freeCount = s.freeCount := rfl

@[simp] theorem State.count_pending (s : State) (c : Counter) :
    (State.count s c).pending = s.pending := rfl

/-! ### `State.countIf` -/

@[simp] theorem State.countIf_rpu (s : State) (b : Bool) (c : Counter) :
    (State.countIf s b c).rpu = s.rpu := by cases b <;> rfl

@[simp] theorem State.countIf_adu (s : State) (b : Bool) (c : Counter) :
    (State.countIf s b c).adu = s.adu := by cases b <;> rfl

@[simp] theorem State.countIf_scu (s : State) (b : Bool) (c : Counter) :
    (State.countIf s b c).scu = s.scu := by cases b <;> rfl

@[simp] theorem State.countIf_clu (s : State) (b : Bool) (c : Counter) :
    (State.countIf s b c).clu = s.clu := by cases b <;> rfl

@[simp] theorem State.countIf_sqe (s : State) (b : Bool) (c : Counter) :
    (State.countIf s b c).sqe = s.sqe := by cases b <;> rfl

@[simp] theorem State.countIf_spu (s : State) (b : Bool) (c : Counter) :
    (State.countIf s b c).spu = s.spu := by cases b <;> rfl

@[simp] theorem State.countIf_mgu (s : State) (b : Bool) (c : Counter) :
    (State.countIf s b c).mgu = s.mgu := by cases b <;> rfl

@[simp] theorem State.countIf_tst (s : State) (b : Bool) (c : Counter) :
    (State.countIf s b c).tst = s.tst := by cases b <;> rfl

@[simp] theorem State.countIf_handed (s : State) (b : Bool) (c : Counter) :
    (State.countIf s b c).handed = s.handed := by cases b <;> rfl

@[simp] theorem State.countIf_freeCount (s : State) (b : Bool) (c : Counter) :
    (State.countIf s b c).freeCount = s.freeCount := by cases b <;> rfl

@[simp] theorem State.countIf_pending (s : State) (b : Bool) (c : Counter) :
    (State.countIf s b c).pending = s.pending := by cases b <;> rfl

/-! ### `State.addTravel` -/

@[simp] theorem State.addTravel_rpu (s : State) (g : GateIx) (d : Nat) :
    (State.addTravel s g d).rpu = s.rpu := rfl

@[simp] theorem State.addTravel_adu (s : State) (g : GateIx) (d : Nat) :
    (State.addTravel s g d).adu = s.adu := rfl

@[simp] theorem State.addTravel_scu (s : State) (g : GateIx) (d : Nat) :
    (State.addTravel s g d).scu = s.scu := rfl

@[simp] theorem State.addTravel_clu (s : State) (g : GateIx) (d : Nat) :
    (State.addTravel s g d).clu = s.clu := rfl

@[simp] theorem State.addTravel_sqe (s : State) (g : GateIx) (d : Nat) :
    (State.addTravel s g d).sqe = s.sqe := rfl

@[simp] theorem State.addTravel_spu (s : State) (g : GateIx) (d : Nat) :
    (State.addTravel s g d).spu = s.spu := rfl

@[simp] theorem State.addTravel_mgu (s : State) (g : GateIx) (d : Nat) :
    (State.addTravel s g d).mgu = s.mgu := rfl

@[simp] theorem State.addTravel_tst (s : State) (g : GateIx) (d : Nat) :
    (State.addTravel s g d).tst = s.tst := rfl

@[simp] theorem State.addTravel_handed (s : State) (g : GateIx) (d : Nat) :
    (State.addTravel s g d).handed = s.handed := rfl

@[simp] theorem State.addTravel_freeCount (s : State) (g : GateIx) (d : Nat) :
    (State.addTravel s g d).freeCount = s.freeCount := rfl

@[simp] theorem State.addTravel_pending (s : State) (g : GateIx) (d : Nat) :
    (State.addTravel s g d).pending = s.pending := rfl

/-! ### `State.addReversal` -/

@[simp] theorem State.addReversal_rpu (s : State) (g : GateIx) (b : Bool) :
    (State.addReversal s g b).rpu = s.rpu := by cases b <;> rfl

@[simp] theorem State.addReversal_adu (s : State) (g : GateIx) (b : Bool) :
    (State.addReversal s g b).adu = s.adu := by cases b <;> rfl

@[simp] theorem State.addReversal_scu (s : State) (g : GateIx) (b : Bool) :
    (State.addReversal s g b).scu = s.scu := by cases b <;> rfl

@[simp] theorem State.addReversal_clu (s : State) (g : GateIx) (b : Bool) :
    (State.addReversal s g b).clu = s.clu := by cases b <;> rfl

@[simp] theorem State.addReversal_sqe (s : State) (g : GateIx) (b : Bool) :
    (State.addReversal s g b).sqe = s.sqe := by cases b <;> rfl

@[simp] theorem State.addReversal_spu (s : State) (g : GateIx) (b : Bool) :
    (State.addReversal s g b).spu = s.spu := by cases b <;> rfl

@[simp] theorem State.addReversal_mgu (s : State) (g : GateIx) (b : Bool) :
    (State.addReversal s g b).mgu = s.mgu := by cases b <;> rfl

@[simp] theorem State.addReversal_tst (s : State) (g : GateIx) (b : Bool) :
    (State.addReversal s g b).tst = s.tst := by cases b <;> rfl

@[simp] theorem State.addReversal_handed (s : State) (g : GateIx) (b : Bool) :
    (State.addReversal s g b).handed = s.handed := by cases b <;> rfl

@[simp] theorem State.addReversal_freeCount (s : State) (g : GateIx) (b : Bool) :
    (State.addReversal s g b).freeCount = s.freeCount := by cases b <;> rfl

@[simp] theorem State.addReversal_pending (s : State) (g : GateIx) (b : Bool) :
    (State.addReversal s g b).pending = s.pending := by cases b <;> rfl

/-! ### `State.notify` -/

@[simp] theorem State.notify_rpu (s : State) (n : Notice) :
    (State.notify s n).rpu = s.rpu := rfl

@[simp] theorem State.notify_adu (s : State) (n : Notice) :
    (State.notify s n).adu = s.adu := rfl

@[simp] theorem State.notify_scu (s : State) (n : Notice) :
    (State.notify s n).scu = s.scu := rfl

@[simp] theorem State.notify_clu (s : State) (n : Notice) :
    (State.notify s n).clu = s.clu := rfl

@[simp] theorem State.notify_sqe (s : State) (n : Notice) :
    (State.notify s n).sqe = s.sqe := rfl

@[simp] theorem State.notify_spu (s : State) (n : Notice) :
    (State.notify s n).spu = s.spu := rfl

@[simp] theorem State.notify_mgu (s : State) (n : Notice) :
    (State.notify s n).mgu = s.mgu := rfl

@[simp] theorem State.notify_tst (s : State) (n : Notice) :
    (State.notify s n).tst = s.tst := rfl

@[simp] theorem State.notify_handed (s : State) (n : Notice) :
    (State.notify s n).handed = s.handed := rfl

@[simp] theorem State.notify_freeCount (s : State) (n : Notice) :
    (State.notify s n).freeCount = s.freeCount := rfl

@[simp] theorem State.notify_pending (s : State) (n : Notice) :
    (State.notify s n).pending = s.pending := rfl

/-! ### `State.reportOwnership` -/

@[simp] theorem State.reportOwnership_rpu (s : State) :
    (State.reportOwnership s).rpu = s.rpu := rfl

@[simp] theorem State.reportOwnership_adu (s : State) :
    (State.reportOwnership s).adu = s.adu := rfl

@[simp] theorem State.reportOwnership_scu (s : State) :
    (State.reportOwnership s).scu = s.scu := rfl

@[simp] theorem State.reportOwnership_clu (s : State) :
    (State.reportOwnership s).clu = s.clu := rfl

@[simp] theorem State.reportOwnership_spu (s : State) :
    (State.reportOwnership s).spu = s.spu := rfl

@[simp] theorem State.reportOwnership_mgu (s : State) :
    (State.reportOwnership s).mgu = s.mgu := rfl

@[simp] theorem State.reportOwnership_tst (s : State) :
    (State.reportOwnership s).tst = s.tst := rfl

@[simp] theorem State.reportOwnership_ncu (s : State) :
    (State.reportOwnership s).ncu = s.ncu := rfl

@[simp] theorem State.reportOwnership_handed (s : State) :
    (State.reportOwnership s).handed = s.handed := rfl

@[simp] theorem State.reportOwnership_freeCount (s : State) :
    (State.reportOwnership s).freeCount = s.freeCount := rfl

@[simp] theorem State.reportOwnership_pending (s : State) :
    (State.reportOwnership s).pending = s.pending := rfl

/-! ### `State.recomputeBounds` -/

@[simp] theorem State.recomputeBounds_rpu (s : State) :
    (State.recomputeBounds s).rpu = s.rpu := rfl

@[simp] theorem State.recomputeBounds_adu (s : State) :
    (State.recomputeBounds s).adu = s.adu := rfl

@[simp] theorem State.recomputeBounds_clu (s : State) :
    (State.recomputeBounds s).clu = s.clu := rfl

@[simp] theorem State.recomputeBounds_sqe (s : State) :
    (State.recomputeBounds s).sqe = s.sqe := rfl

@[simp] theorem State.recomputeBounds_spu (s : State) :
    (State.recomputeBounds s).spu = s.spu := rfl

@[simp] theorem State.recomputeBounds_mgu (s : State) :
    (State.recomputeBounds s).mgu = s.mgu := rfl

@[simp] theorem State.recomputeBounds_tst (s : State) :
    (State.recomputeBounds s).tst = s.tst := rfl

@[simp] theorem State.recomputeBounds_ncu (s : State) :
    (State.recomputeBounds s).ncu = s.ncu := rfl

@[simp] theorem State.recomputeBounds_handed (s : State) :
    (State.recomputeBounds s).handed = s.handed := rfl

@[simp] theorem State.recomputeBounds_freeCount (s : State) :
    (State.recomputeBounds s).freeCount = s.freeCount := rfl

@[simp] theorem State.recomputeBounds_pending (s : State) :
    (State.recomputeBounds s).pending = s.pending := rfl

/-! ### What the named updates read back as -/

@[simp] theorem gate_setGate_self (s : State) (g : GateIx) (r : Gate) :
    State.gate (State.setGate s g r) g = r := by simp [State.gate, State.setGate]

theorem gate_setGate_ne (s : State) {g k : GateIx} (r : Gate) (h : k ≠ g) :
    State.gate (State.setGate s g r) k = State.gate s k := by
  have : g.val ≠ k.val := fun e => h (Fin.ext e.symm)
  simp [State.gate, State.setGate, this]

theorem gate_setGate (s : State) (g k : GateIx) (r : Gate) :
    State.gate (State.setGate s g r) k = if k = g then r else State.gate s k := by
  split
  · subst_vars; simp
  · exact gate_setGate_ne s r ‹_›

@[simp] theorem setGate_setGate (s : State) (g : GateIx) (r r' : Gate) :
    State.setGate (State.setGate s g r) g r' = State.setGate s g r' := by
  simp [State.setGate, Vector.set_set]

@[simp] theorem setGate_gate (s : State) (g : GateIx) : State.setGate s g (State.gate s g) = s := by
  simp [State.setGate, State.gate]

/-- A vector changed element by element reads back its function's value. -/
@[simp] theorem mapVec_getElem {α : Type} {n : Nat} (f : Fin n → α → α) (v : Vector α n) (i : Nat) (h : i < n) :
    (mapVec f v)[i] = f ⟨i, h⟩ v[i] := by simp [mapVec]

@[simp] theorem gate_mapGates (s : State) (f : GateIx → Gate → Gate) (g : GateIx) :
    State.gate (State.mapGates s f) g = f g (State.gate s g) := by simp [State.gate, State.mapGates]

@[simp] theorem gate_setTally (s : State) (n : Nat) (g : GateIx) :
    State.gate (State.setTally s n) g = State.gate s g := rfl

@[simp] theorem gate_setGauge (s : State) (n : GaugeIx) (r : Gauge) (g : GateIx) :
    State.gate (State.setGauge s n r) g = State.gate s g := rfl

/-- Updates of other blocks leave every gate's record alone. -/
theorem gate_congr {s t : State} (h : t.adu.gates = s.adu.gates) (g : GateIx) :
    State.gate t g = State.gate s g := by simp [State.gate, h]

@[simp] theorem setGate_tally (s : State) (g : GateIx) (r : Gate) :
    (State.setGate s g r).adu.tally = s.adu.tally := rfl

@[simp] theorem setGate_base (s : State) (g : GateIx) (r : Gate) :
    (State.setGate s g r).adu.base = s.adu.base := rfl

@[simp] theorem setGate_gauges (s : State) (g : GateIx) (r : Gate) :
    (State.setGate s g r).adu.gauges = s.adu.gauges := rfl

@[simp] theorem setTally_tally (s : State) (n : Nat) : (State.setTally s n).adu.tally = n := rfl

@[simp] theorem setTally_gates (s : State) (n : Nat) : (State.setTally s n).adu.gates = s.adu.gates := rfl

@[simp] theorem setTally_base (s : State) (n : Nat) : (State.setTally s n).adu.base = s.adu.base := rfl

@[simp] theorem setTally_gauges (s : State) (n : Nat) : (State.setTally s n).adu.gauges = s.adu.gauges := rfl

@[simp] theorem setGauge_gates (s : State) (n : GaugeIx) (r : Gauge) :
    (State.setGauge s n r).adu.gates = s.adu.gates := rfl

@[simp] theorem setGauge_tally (s : State) (n : GaugeIx) (r : Gauge) :
    (State.setGauge s n r).adu.tally = s.adu.tally := rfl

@[simp] theorem setGauge_base (s : State) (n : GaugeIx) (r : Gauge) :
    (State.setGauge s n r).adu.base = s.adu.base := rfl

@[simp] theorem mapGates_tally (s : State) (f : GateIx → Gate → Gate) :
    (State.mapGates s f).adu.tally = s.adu.tally := rfl

@[simp] theorem mapGates_base (s : State) (f : GateIx → Gate → Gate) :
    (State.mapGates s f).adu.base = s.adu.base := rfl

@[simp] theorem mapGates_gauges (s : State) (f : GateIx → Gate → Gate) :
    (State.mapGates s f).adu.gauges = s.adu.gauges := rfl

@[simp] theorem port_setPort_self (s : State) (p : Port) (r : LinkPort) :
    State.port (State.setPort s p r) p = r := by cases p <;> rfl

theorem port_setPort_ne (s : State) {p k : Port} (r : LinkPort) (h : k ≠ p) :
    State.port (State.setPort s p r) k = State.port s k := by
  cases p <;> cases k <;> first | rfl | exact absurd rfl h

@[simp] theorem setPort_setPort (s : State) (p : Port) (r r' : LinkPort) :
    State.setPort (State.setPort s p r) p r' = State.setPort s p r' := by cases p <;> rfl

@[simp] theorem setPort_arrivals (s : State) (p : Port) (r : LinkPort) :
    (State.setPort s p r).clu.arrivals = s.clu.arrivals := by cases p <;> rfl

@[simp] theorem setPort_inflow (s : State) (p : Port) (r : LinkPort) :
    (State.setPort s p r).clu.inflow = s.clu.inflow := by cases p <;> rfl

@[simp] theorem panel_setPanel_self (s : State) (i : PanelInput) (r : PanelLine) :
    State.panel (State.setPanel s i r) i = r := by simp [State.panel, State.setPanel]

@[simp] theorem setPanel_setPanel (s : State) (i : PanelInput) (r r' : PanelLine) :
    State.setPanel (State.setPanel s i r) i r' = State.setPanel s i r' := by
  simp [State.setPanel, Vector.set_set]

@[simp] theorem setPanel_sup (s : State) (i : PanelInput) (r : PanelLine) :
    (State.setPanel s i r).spu.sup = s.spu.sup := rfl

@[simp] theorem counter_count_self (s : State) (c : Counter) :
    State.counter (State.count s c) c = min 65535 (State.counter s c + 1) := by
  simp [State.counter, State.count, State.setCounters, satAdd]

theorem Counter.ix_injective {c d : Counter} (h : Counter.ix c = Counter.ix d) : c = d := by
  cases c <;> cases d <;> first | rfl | exact absurd h (by decide)

theorem counter_count_ne (s : State) {c d : Counter} (h : d ≠ c) :
    State.counter (State.count s c) d = State.counter s d := by
  have : (Counter.ix c).val ≠ (Counter.ix d).val := fun e => h (Counter.ix_injective (Fin.ext e)).symm
  simp [State.counter, State.count, State.setCounters, this]

@[simp] theorem count_queue (s : State) (c : Counter) : (State.count s c).ncu.queue = s.ncu.queue := rfl

@[simp] theorem count_lost (s : State) (c : Counter) : (State.count s c).ncu.lost = s.ncu.lost := rfl

@[simp] theorem countIf_queue (s : State) (b : Bool) (c : Counter) :
    (State.countIf s b c).ncu.queue = s.ncu.queue := by cases b <;> rfl

@[simp] theorem countIf_lost (s : State) (b : Bool) (c : Counter) :
    (State.countIf s b c).ncu.lost = s.ncu.lost := by cases b <;> rfl

@[simp] theorem countIf_false (s : State) (c : Counter) : State.countIf s false c = s := rfl

@[simp] theorem countIf_true (s : State) (c : Counter) : State.countIf s true c = State.count s c := rfl

/-- R167 to R169: a notice reaches the counters only through the lost count. -/
@[simp] theorem Ncu.notify_counters (u : Ncu) (n : Notice) : (Ncu.notify u n).counters = u.counters := by
  cases n <;> simp only [Ncu.notify, Ncu.append] <;> (repeat' split) <;> rfl

@[simp] theorem Ncu.notify_bank (u : Ncu) (n : Notice) : (Ncu.notify u n).bank = u.bank := by
  cases n <;> simp only [Ncu.notify, Ncu.append] <;> (repeat' split) <;> rfl

@[simp] theorem Ncu.emit_counters (u : Ncu) : (Ncu.emit u).counters = u.counters := by
  unfold Ncu.emit; split <;> [rfl; (split <;> rfl)]

@[simp] theorem Ncu.emit_bank (u : Ncu) : (Ncu.emit u).bank = u.bank := by
  unfold Ncu.emit; split <;> [rfl; (split <;> rfl)]

end Sys2Proof.Machine
end

