-- ==== Sys2Proof/Laws/Ring.lean ====
section
/-! SUPPORT. Frames and checks, and what becomes of a frame taken at ring-in: one lemma per place a frame can
come to. -/

namespace Sys2Proof.Machine

open Safety

/-! ### Checks -/

/-- R1: a frame sealed with its check is good. -/
@[simp] theorem good_sealed (f : Frame) : Frame.good (Frame.sealed f) = true := by
  simp [Frame.good, Frame.sealed, Frame.body]

@[simp] theorem good_goodFrame (k : BitVec 4) (f : FrameFields) : Frame.good (goodFrame k f) = true :=
  good_sealed _

@[simp] theorem goodFrame_kind (k : BitVec 4) (f : FrameFields) : (goodFrame k f).kind = k := rfl

@[simp] theorem goodFrame_flags (k : BitVec 4) (f : FrameFields) : (goodFrame k f).flags = f.flags := rfl

@[simp] theorem goodFrame_id (k : BitVec 4) (f : FrameFields) : (goodFrame k f).id = f.id := rfl

@[simp] theorem goodFrame_valueA (k : BitVec 4) (f : FrameFields) : (goodFrame k f).valueA = f.valueA := rfl

@[simp] theorem goodFrame_valueB (k : BitVec 4) (f : FrameFields) : (goodFrame k f).valueB = f.valueB := rfl

@[simp] theorem goodFrame_tag (k : BitVec 4) (f : FrameFields) : (goodFrame k f).tag = f.tag := rfl

/-- R2: a good frame is a cycle marker when its kind is CYCLE. -/
theorem isMarker_goodFrame (k : BitVec 4) (f : FrameFields) :
    Frame.isMarker (goodFrame k f) = (k == kindCycle) := by simp [Frame.isMarker]

/-- The cycle number of a marker is the one it was made with. -/
@[simp] theorem cycle_markerFrame (m : MarkerFields) : Frame.cycle (markerFrame m) = m.cycle := by
  simp only [Frame.cycle, markerFrame, goodFrame_valueA, goodFrame_valueB]
  ext i
  simp only [BitVec.getElem_append, BitVec.getElem_extractLsb']
  split <;> simp_all

/-- R107: a message sealed with its check is good. -/
@[simp] theorem good_sealedMsg (m : LinkMsg) : LinkMsg.good (LinkMsg.sealed m) = true := by
  simp [LinkMsg.good, LinkMsg.sealed, LinkMsg.body]

@[simp] theorem good_goodMsg (k : Byte) (m : LinkFields) : LinkMsg.good (goodMsg k m) = true := good_sealedMsg _

/-! ### The places of a frame -/

/-- R19: a frame in LOAD. -/
theorem ringArrival_load {s : State} (h : s.rpu.state = .load) (f : Frame) (late : Bool) :
    State.ringArrival s f late = State.emit s (loadFrame f) := by simp [State.ringArrival, h]

/-- R2: a cycle marker. -/
theorem ringArrival_marker {s : State} (h : s.rpu.state ≠ .load) {f : Frame} (hf : Frame.isMarker f = true)
    (late : Bool) : State.ringArrival s f late = State.takeMarker s f late := by simp [State.ringArrival, h, hf]

/-- R3: a frame that is no marker, in a slot of the open cycle. -/
theorem ringArrival_slot {s : State} {x : SlotTable} {role : Role} (h : AtSlot s x role) {f : Frame}
    (hf : Frame.isMarker f = false) (late : Bool) :
    State.ringArrival s f late = State.slotFrame
      { State.countIf s (!Frame.good f) .badCheck with rpu := { s.rpu with slotPos := s.rpu.slotPos + 1 } }
      x s.rpu.slotPos f := by
  obtain ⟨h1, h2, h3, -, h5⟩ := h
  simp [State.ringArrival, h1, hf, State.takeAges, h5, h2, State.runFrame, h3]

/-- R14: a frame that is no marker, beyond the last slot of the open cycle. -/
theorem ringArrival_excess {s : State} {x : SlotTable} (h1 : s.rpu.state = .run) (h2 : s.rpu.active = some x)
    (h3 : x.count ≤ s.rpu.slotPos) (h5 : s.handed.ages = false) {f : Frame} (hf : Frame.isMarker f = false)
    (late : Bool) :
    State.ringArrival s f late = State.passFrame (State.count
      { State.countIf s (!Frame.good f) .badCheck with rpu := { s.rpu with slotPos := s.rpu.slotPos + 1 } }
      .excessFrames) f := by
  have h3' : ¬ s.rpu.slotPos < x.count := by omega
  simp [State.ringArrival, h1, hf, State.takeAges, h5, h2, State.runFrame, h3']

/-- R18: a frame that is no marker, while no cycle is open. -/
theorem ringArrival_outside {s : State} (h : s.rpu.state ≠ .load) (h2 : s.rpu.active = none)
    (h5 : s.handed.ages = false) {f : Frame} (hf : Frame.isMarker f = false) (late : Bool) :
    State.ringArrival s f late = State.passFrame (State.countIf s (!Frame.good f) .badCheck) f := by
  simp [State.ringArrival, h, hf, State.takeAges, h5, h2]

/-- R8: the COMMAND slot of gate `g`. -/
theorem ringArrival_command {s : State} {g : GateIx} (h : AtCommand s g) {f : Frame}
    (hf : Frame.isMarker f = false) (late : Bool) :
    State.ringArrival s f late = State.commandSlot
      { State.countIf s (!Frame.good f) .badCheck with rpu := { s.rpu with slotPos := s.rpu.slotPos + 1 } } g f := by
  obtain ⟨x, h, hg⟩ := h
  rw [ringArrival_slot h hf]
  simp [State.slotFrame, h.2.2.2.1, hg]

/-- R11: a good MGMT_REQ in the MANAGEMENT slot. -/
theorem ringArrival_request {s : State} (h : AtManagement s) (op : Byte) (q : Request) (late : Bool) :
    State.ringArrival s (requestFrame op q) late =
      State.emit (State.manage { s with rpu := { s.rpu with slotPos := s.rpu.slotPos + 1 } } (requestFrame op q)).1
        (State.manage { s with rpu := { s.rpu with slotPos := s.rpu.slotPos + 1 } } (requestFrame op q)).2 := by
  obtain ⟨x, h⟩ := h
  rw [ringArrival_slot h (by simp [requestFrame, isMarker_goodFrame])]
  simp [State.slotFrame, h.2.2.2.1, State.managementSlot, requestFrame]

/-- R9: a good frame in a TELEMETRY slot with binding `b`. -/
theorem ringArrival_telemetry {s : State} {b : Nat} (h : AtTelemetry s b) {f : Frame} (hg : Frame.good f = true)
    (hf : f.kind ≠ kindCycle) (hs : f.kind ≠ kindSetpoint) (late : Bool) :
    State.ringArrival s f late = State.emit
      (State.tap { s with rpu := { s.rpu with slotPos := s.rpu.slotPos + 1 } } b f) f := by
  obtain ⟨x, h, hb⟩ := h
  have hf' : ¬ f.kind = 1#4 := hf
  have hs' : ¬ f.kind = 2#4 := hs
  rw [ringArrival_slot h (by simp [Frame.isMarker, hf'])]
  simp [State.slotFrame, h.2.2.2.1, hb, State.passFrame, hg, hs']

end Sys2Proof.Machine
end

