-- ==== Sys2Proof/Laws/Mgmt.lean ====
section
/-! SUPPORT. Management requests: the fields of a request, the tests it passes or fails, and the frame that takes
its place. -/

namespace Sys2Proof.Machine

open Safety

/-! ### The fields of value A and value B -/

@[simp] theorem commandIn_append (code arg : Byte) : commandIn (code ++ arg) = commandOf code := by
  have : (code ++ arg).extractLsb' 8 8 = code := by
    ext i hi
    have h := BitVec.getLsbD_append (x := code) (y := arg) (i := 8 + i)
    simp [BitVec.getLsbD_eq_getElem hi] at h
    simpa using h
  simp [commandIn, this]

@[simp] theorem argumentIn_append (code arg : Byte) : argumentIn (code ++ arg) = arg.toNat := by
  have : (code ++ arg).extractLsb' 0 8 = arg := by
    ext i hi
    have h := BitVec.getLsbD_append (x := code) (y := arg) (i := i)
    simp [hi] at h
    simpa using h
  simp [argumentIn, this]

/-- R150: bits 15..12 all clear select the TABLE space, with the reserved bits clear. -/
theorem value_table {a : Word} (h : a.extractLsb' 12 4 = 0) :
    reservedClear a = true ∧ spaceOf a = .table ∧ a.toNat = addressOf a := by
  have h' := congrArg BitVec.toNat h
  simp [BitVec.extractLsb'_toNat, Nat.shiftRight_eq_div_pow] at h'
  have ha : a.toNat < 65536 := a.isLt
  refine ⟨?_, ?_, ?_⟩
  · have : a.extractLsb' 12 3 = 0 := by
      apply BitVec.eq_of_toNat_eq
      simp [BitVec.extractLsb'_toNat, Nat.shiftRight_eq_div_pow]; omega
    simp [reservedClear, this]
  · have : a.msb = false := by simp [BitVec.msb_eq_decide]; omega
    simp [spaceOf, this]
  · simp [addressOf, BitVec.extractLsb'_toNat]; omega

/-- R150: bit 15 alone of bits 15..12 selects the STATE space. -/
theorem value_state {a : Word} (h : a.extractLsb' 12 4 = 8) :
    reservedClear a = true ∧ spaceOf a = .state ∧ a.toNat = 0x8000 + addressOf a := by
  have h' := congrArg BitVec.toNat h
  simp [BitVec.extractLsb'_toNat, Nat.shiftRight_eq_div_pow] at h'
  have ha : a.toNat < 65536 := a.isLt
  refine ⟨?_, ?_, ?_⟩
  · have : a.extractLsb' 12 3 = 0 := by
      apply BitVec.eq_of_toNat_eq
      simp [BitVec.extractLsb'_toNat, Nat.shiftRight_eq_div_pow]; omega
    simp [reservedClear, this]
  · have : a.msb = true := by simp [BitVec.msb_eq_decide]; omega
    simp [spaceOf, this]
  · simp [addressOf, BitVec.extractLsb'_toNat]; omega

/-! ### Requests -/

@[simp] theorem requestFrame_id (op : Byte) (q : Request) : (requestFrame op q).id = op := rfl

@[simp] theorem requestFrame_valueA (op : Byte) (q : Request) : (requestFrame op q).valueA = q.valueA := rfl

@[simp] theorem requestFrame_valueB (op : Byte) (q : Request) : (requestFrame op q).valueB = q.valueB := rfl

@[simp] theorem requestFrame_tag (op : Byte) (q : Request) : (requestFrame op q).tag = q.tag := rfl

/-- R151: a request that fails a test changes nothing and draws a reply with that test's status. -/
theorem manage_refused {s : State} {f : Frame} {st : Status} (h : State.refusalOf s f = some st) :
    State.manage s f = (s, reply st (State.nakValues s st f).1 (State.nakValues s st f).2 f.tag) := by
  simp [State.manage, h]

/-- R150, R151: a request that passes every test has its effect and draws an OK reply. -/
theorem manage_performed {s : State} {f : Frame} {op : Op} (h : State.refusalOf s f = none)
    (ho : opOf f.id = some op) :
    State.manage s f = ((State.perform s op f).1,
      reply .ok (State.perform s op f).2.1 (State.perform s op f).2.2 f.tag) := by
  simp [State.manage, h, ho]

/-- R151, R159, R160, R163: a command with a defined code and argument, which no lock forbids, which needs no
MAINT_ENABLE or has it, and which no operation in flight refuses, is handed to its owner and answered OK. -/
theorem manage_command {s : State} {c : Command} {code : Byte} (q : CommandRequest) (hc : commandOf code = some c)
    (ha : argumentFails c q.arg.toNat = false) (hl : Mgu.forbidsCommand s.mgu c = false)
    (hm : State.inputActive s .maintEnable = true ∨ (c ≠ .engineStep ∧ c ≠ .lockLower))
    (hb : s.mgu.op = none ∨ Command.busy c = false) :
    State.manage s (commandFrame code q) = (State.command s c q.arg.toNat, commandReply code q) := by
  have h : State.refusalOf s (commandFrame code q) = none := by
    rcases hm with hm | ⟨hm, hm'⟩ <;> rcases hb with hb | hb <;>
      simp_all [State.refusalOf, commandFrame, opOf, opFails, State.laterTests, firstStatus, State.rangeFails,
        State.lockedFails, State.maintFails, State.busyFails, State.editFails, State.invalidFails]
  rw [manage_performed h (op := .command) rfl]
  simp [State.perform, commandFrame, hc, commandReply]

/-- A command in the MANAGEMENT slot that passes every test: its effect, and the OK reply in its place. -/
theorem ringArrival_commandRequest {s : State} (h : AtManagement s) {c : Command} {code : Byte} (q : CommandRequest)
    (hc : commandOf code = some c) (ha : argumentFails c q.arg.toNat = false)
    (hl : Mgu.forbidsCommand s.mgu c = false)
    (hm : State.inputActive s .maintEnable = true ∨ (c ≠ .engineStep ∧ c ≠ .lockLower))
    (hb : s.mgu.op = none ∨ Command.busy c = false) (late : Bool) :
    State.ringArrival s (commandFrame code q) late = State.emit
      (State.command { s with rpu := { s.rpu with slotPos := s.rpu.slotPos + 1 } } c q.arg.toNat)
      (commandReply code q) := by
  have := manage_command (s := { s with rpu := { s.rpu with slotPos := s.rpu.slotPos + 1 } }) q hc ha hl hm hb
  unfold commandFrame at this ⊢
  rw [ringArrival_request h, this]

/-! ### The STATE space -/

/-- The number that packs a list of flags has the list's flags as its bits. -/
theorem testBit_flags (l : List Bool) (i : Nat) :
    ((l.foldr (fun (b : Bool) n => 2 * n + (if b then 1 else 0)) 0) : Nat).testBit i = l.getD i false := by
  induction l generalizing i with
  | nil => simp
  | cons b t ih =>
    cases i with
    | zero => cases b <;> simp [Nat.testBit_zero, Nat.add_mod]
    | succ n =>
      have : (2 * (t.foldr (fun (b : Bool) n => 2 * n + (if b then 1 else 0)) 0) + (if b then 1 else 0)) / 2 =
          t.foldr (fun (b : Bool) n => 2 * n + (if b then 1 else 0)) 0 := by
        cases b with
        | false => simp
        | true => simp; omega
      simp only [List.foldr, Nat.testBit_succ, this, ih, List.getD_cons_succ]

/-- 11 Table 11-8: a word of flags has the first of them in bit 0. -/
theorem getLsbD_packFlags (l : List Bool) {i : Nat} (h : i < 16) : (packFlags l).getLsbD i = l.getD i false := by
  have e : (l.take 16).getD i false = l.getD i false := by simp [List.getD, h]
  rw [packFlags, BitVec.getLsbD_ofNat, testBit_flags, e]
  simp [h]

end Sys2Proof.Machine
end

