-- ==== Sys2Proof/Laws/Blocks.lean ====
section
/-! SUPPORT. One lemma for each shared operation of the blocks: everything it can do to the state. -/

namespace Sys2Proof.Machine

open Safety

/-! ### Notices and counters (10) -/

/-- R168: replacing a CLAMP in place keeps the length of the queue. -/
@[simp] theorem length_replaceClamp (g : GateIx) (c : Clamp) (l : List Notice) :
    (replaceClamp g c l).length = l.length := by
  induction l with
  | nil => rfl
  | cons n rest ih => unfold replaceClamp; split <;> simp [ih]

/-- R168: replacing a CLAMP in place keeps how many CLAMP entries each gate has. -/
theorem clamps_replaceClamp (g k : GateIx) (c : Clamp) (l : List Notice) :
    ((replaceClamp g c l).filter (Notice.isClampOf k)).length = (l.filter (Notice.isClampOf k)).length := by
  induction l with
  | nil => rfl
  | cons n rest ih =>
    unfold replaceClamp
    split
    · rename_i h
      have hn : Notice.isClampOf k n = Notice.isClampOf k (.clamp g c) := by
        cases n <;> simp_all [Notice.isClampOf]
      simp only [List.filter_cons, hn]
      split <;> rfl
    · simp only [List.filter_cons]
      split <;> simp [ih]

/-- R167 to R169: what handing over a notice does: a CLAMP in place of its gate's entry, an entry at the tail, or a
notice lost. -/
theorem notify_cases (u : Ncu) (n : Notice) :
    (∃ g c, n = .clamp g c ∧ u.queue.any (Notice.isClampOf g) = true ∧
      Ncu.notify u n = { u with queue := replaceClamp g c u.queue }) ∨
    ((∀ g c, n = .clamp g c → u.queue.any (Notice.isClampOf g) = false) ∧ u.queue.length < 16 ∧
      Ncu.notify u n = { u with queue := u.queue ++ [n] }) ∨
    (16 ≤ u.queue.length ∧ Ncu.notify u n = { u with lost := min 255 (u.lost + 1) }) := by
  cases n with
  | clamp g c =>
    cases h : u.queue.any (Notice.isClampOf g) with
    | true => exact .inl ⟨g, c, rfl, h, by simp [Ncu.notify, h]⟩
    | false =>
      by_cases hl : u.queue.length < 16
      · refine .inr (.inl ⟨?_, hl, ?_⟩)
        · rintro g' c' e; injection e with e1 e2; subst e1; exact h
        · simp [Ncu.notify, h, Ncu.append, hl]
      · exact .inr (.inr ⟨by omega, by simp [Ncu.notify, h, Ncu.append, hl, satAdd]⟩)
  | _ =>
    by_cases hl : u.queue.length < 16
    · exact .inr (.inl ⟨(fun _ _ e => nomatch e), hl, by simp [Ncu.notify, Ncu.append, hl]⟩)
    · exact .inr (.inr ⟨by omega, by simp [Ncu.notify, Ncu.append, hl, satAdd]⟩)

/-- R167 to R169: handing over a notice keeps the queue sound. -/
theorem notices_notify {u : Ncu} (h : NoticesOk u) (n : Notice) : NoticesOk (Ncu.notify u n) := by
  obtain ⟨h1, h2, h3⟩ := h
  rcases notify_cases u n with ⟨g, c, -, -, e⟩ | ⟨hn, hl, e⟩ | ⟨-, e⟩ <;> rw [e]
  · exact ⟨by simpa using h1, fun k => by simpa [clamps_replaceClamp] using h2 k, h3⟩
  · refine ⟨by simp only [List.length_append, List.length_singleton]; omega, fun k => ?_, h3⟩
    cases n with
    | clamp g c =>
      by_cases hk : g = k
      · subst hk
        have : u.queue.filter (Notice.isClampOf g) = [] := by
          rw [List.filter_eq_nil_iff]; simpa using hn g c rfl
        simp [List.filter_append, this, Notice.isClampOf]
      · simpa [List.filter_append, Notice.isClampOf, hk] using h2 k
    | _ => simpa [List.filter_append, Notice.isClampOf] using h2 k
  · exact ⟨h1, h2, Nat.min_le_left _ _⟩

/-- R169, R170: the departure of the head entry keeps the queue sound. -/
theorem notices_emit {u : Ncu} (h : NoticesOk u) : NoticesOk (Ncu.emit u) := by
  obtain ⟨h1, h2, h3⟩ := h
  unfold Ncu.emit
  split
  · exact ⟨h1, h2, h3⟩
  · rename_i n rest hq
    rw [hq] at h1 h2
    have hs : ∀ k, (rest.filter (Notice.isClampOf k)).length ≤ 1 := fun k => by
      have := h2 k
      rw [List.filter_cons] at this
      split at this
      · simp only [List.length_cons] at this; omega
      · exact this
    simp only [List.length_cons] at h1
    split
    · refine ⟨by simpa using h1, fun k => ?_, by simp⟩
      simpa [List.filter_append, Notice.isClampOf] using hs k
    · exact ⟨by dsimp only; omega, hs, h3⟩

/-- R171: an increase of a station counter keeps every counter within its maximum. -/
theorem counters_count {s : State} (h : CountersOk s.ncu.counters) (c : Counter) :
    CountersOk (State.count s c).ncu.counters := by
  refine ⟨fun i => ?_, h.2.1, h.2.2⟩
  simp only [State.count, State.setCounters, Fin.getElem_fin, Vector.getElem_set, satAdd]
  split
  · omega
  · exact h.1 i

/-- R58: an increase of a travel total keeps every counter within its maximum. -/
theorem counters_addTravel {s : State} (h : CountersOk s.ncu.counters) (g : GateIx) (d : Nat) :
    CountersOk (State.addTravel s g d).ncu.counters := by
  refine ⟨h.1, fun k => ?_, h.2.2⟩
  simp only [State.addTravel, State.setCounters, Fin.getElem_fin, Vector.getElem_set, satAdd]
  split
  · omega
  · exact h.2.1 k

/-! ### Bounds and ownership -/

/-- R94, R95: the SCU's upper bound is the least of its terms, with the first of them that is so. -/
theorem upperBound_eq (s : State) : upperBound s.table s.scu s.adu.base = (upperNow s, upperTermNow s) := by
  unfold upperBound upperTermNow upperNow
  cases s.scu.mode
  · by_cases h : 0 < s.scu.curtailLeft <;>
      simp only [h, smallest, if_true, if_false, List.foldl_append, List.foldl_cons, List.foldl_nil, reduceCtorEq,
        true_and, false_and] <;>
      (repeat' split) <;> refine Prod.ext ?_ ?_ <;> first | rfl | (dsimp only at *; omega)
  · rfl

/-- R94, R95: the SCU's lower bound is the greatest of its terms, with the first of them that is so. -/
theorem lowerBound_eq (s : State) : lowerBound s.scu s.adu.base s.clu.inflow = (lowerNow s, lowerTermNow s) := by
  unfold lowerBound lowerTermNow lowerNow
  cases s.scu.mode <;> cases s.clu.inflow <;>
    simp only [largest, List.foldl_append, List.foldl_cons, List.foldl_nil] <;>
    (repeat' split) <;> refine Prod.ext ?_ ?_ <;> first | rfl | (dsimp only at *; omega)

/-- R96: the bounds are current when a recomputation changes nothing. -/
theorem boundsOk_iff (s : State) : BoundsOk s ↔ State.recomputeBounds s = s := by
  simp only [BoundsOk, State.recomputeBounds, Scu.withBounds, upperBound_eq, lowerBound_eq]
  constructor
  · rintro ⟨h1, h2, h3, h4⟩
    rw [← h1, ← h2, ← h3, ← h4]
  · intro h
    have h' := congrArg State.scu h
    have e1 := congrArg Scu.upper h'
    have e2 := congrArg Scu.upperTerm h'
    have e3 := congrArg Scu.lower h'
    have e4 := congrArg Scu.lowerTerm h'
    exact ⟨e1.symm, e2.symm, e3.symm, e4.symm⟩

/-- R96: after a recomputation the bounds are those of their inputs. -/
theorem bounds_recompute (s : State) : BoundsOk (State.recomputeBounds s) := (boundsOk_iff _).mpr rfl

/-! ### The local tick -/

/-- What taking a count's part of the tick ahead does: nothing the second time, or the part and its mark. -/
theorem takeAhead_cases (s : State) (x : TickPart) :
    (x ∈ s.handed.ticked ∧ State.takeAhead s x = s) ∨
    (x ∉ s.handed.ticked ∧ State.takeAhead s x = { State.tickPart s x with
      handed := { (State.tickPart s x).handed with ticked := (State.tickPart s x).handed.ticked ++ [x] } }) := by
  by_cases h : x ∈ s.handed.ticked
  · exact .inl ⟨h, by simp [State.takeAhead, h]⟩
  · exact .inr ⟨h, by simp [State.takeAhead, h]⟩

/-- What a command that takes a count's part of the tick does: nothing, or the part, once and at its limit. -/
theorem tickAhead_cases (s : State) (x : TickPart) :
    ((x ∈ s.handed.ticked ∨ State.expired (State.raise s x) x = false) ∧ State.tickAhead s x = s) ∨
    (x ∉ s.handed.ticked ∧ State.expired (State.raise s x) x = true ∧
      State.tickAhead s x = { State.expire (State.raise s x) x with
        handed := { (State.expire (State.raise s x) x).handed with
          ticked := (State.expire (State.raise s x) x).handed.ticked ++ [x] } }) := by
  cases he : State.expired (State.raise s x) x
  · exact .inl ⟨.inr rfl, by simp [State.tickAhead, he]⟩
  · rcases takeAhead_cases s x with ⟨h, e⟩ | ⟨h, e⟩
    · exact .inl ⟨.inl h, by simp [State.tickAhead, e]⟩
    · exact .inr ⟨h, rfl, by simp [State.tickAhead, he, e, State.tickPart]⟩

/-- Raising a count touches the RPU, one port or one panel input. -/
theorem raise_frame (s : State) (x : TickPart) :
    (State.raise s x).adu = s.adu ∧ (State.raise s x).scu = s.scu ∧ (State.raise s x).sqe = s.sqe ∧
    ((∀ i, x ≠ .sample i) → (State.raise s x).spu = s.spu) ∧ (State.raise s x).mgu = s.mgu ∧
    (State.raise s x).tst = s.tst ∧ (State.raise s x).ncu = s.ncu ∧ (State.raise s x).handed = s.handed ∧
    (State.raise s x).pending = s.pending ∧ (x ≠ .gap → (State.raise s x).rpu = s.rpu) := by
  cases x <;> simp only [State.raise, State.sampleInput] <;> split <;> simp

/-- R147: a panel input's part of a tick: no sample while RESET_N is asserted; the change count cleared or raised; or, at
the fourth sample in succession at the other level, the change taken. -/
theorem tickPart_sample (s : State) (i : PanelInput) :
    (s.tst.resetAsserted = true ∧ State.tickPart s (.sample i) = s) ∨
    (s.tst.resetAsserted = false ∧ (panelSampled (State.panel s i)).level = (State.panel s i).level ∧
      State.tickPart s (.sample i) = State.setPanel s i (panelSampled (State.panel s i))) ∨
    (s.tst.resetAsserted = false ∧ (State.panel s i).pin ≠ (State.panel s i).level ∧ 4 ≤ (State.panel s i).count + 1 ∧
      State.tickPart s (.sample i) =
        (if s.rpu.state = .load then State.setPanel s i (panelSampled (State.panel s i))
        else State.handInput (State.setPanel s i (panelSampled (State.panel s i))) i (State.panel s i).pin)) := by
  cases hr : s.tst.resetAsserted
  · by_cases hp : (State.panel s i).pin = (State.panel s i).level
    · exact .inr (.inl ⟨rfl, by simp [panelSampled, hp], by
        simp [State.tickPart, State.raise, State.expired, State.inputChanges, State.sampleInput, panelSampled, hr, hp]⟩)
    · by_cases hc : (State.panel s i).count + 1 < 4
      · exact .inr (.inl ⟨rfl, by simp [panelSampled, hp, hc], by
          simp [State.tickPart, State.raise, State.expired, State.inputChanges, State.sampleInput, panelSampled, hr,
            hp, hc, Nat.not_le.mpr hc]⟩)
      · have hc4 : 4 ≤ (State.panel s i).count + 1 := by omega
        exact .inr (.inr ⟨rfl, hp, hc4, by
          simp [State.tickPart, State.raise, State.expired, State.inputChanges, State.sampleInput, State.expire,
            State.takeInput, panelSampled, hr, hp, hc, hc4]⟩)
  · exact .inl ⟨rfl, by
      simp [State.tickPart, State.raise, State.expired, State.inputChanges, State.sampleInput, hr]⟩

/-- R131: after a report the ownership set is that of the engine-owned gates. -/
theorem ownership_report (s : State) : OwnershipOk (State.reportOwnership s) := rfl

/-- R75: an action list applied: every gate's record, and the tally and the gauges kept. -/
theorem gate_applyActions (s : State) (l : ActionList) (g : GateIx) :
    State.gate (State.applyActions s l) g = Gate.applyAction (ActionList.find l g) (State.gate s g) :=
  gate_mapGates s _ g

/-- R72: a trip line becomes active: every gate's record. -/
theorem gate_tripActive (s : State) (u : UnitIx) (g : GateIx) :
    State.gate (State.tripActive s u) g =
      if wicketOf s.table g u.val then { State.gate s g with owner := .trip } else State.gate s g :=
  gate_mapGates s _ g

/-- R72: a trip line becomes inactive: every gate's record. -/
theorem gate_tripInactive (s : State) (u : UnitIx) (g : GateIx) :
    State.gate (State.tripInactive s u) g =
      if (State.gate s g).owner = .trip ∧ wicketOf s.table g u.val = true then
        afterTrip (actionList s.table s.sqe.current) g (State.gate s g)
      else State.gate s g := gate_mapGates s _ g

/-- R72: a gate that a trip no longer holds is not left with owner TRIP. -/
theorem afterTrip_owner (l : ActionList) (g : GateIx) (r : Gate) : (afterTrip l g r).owner ≠ .trip := by
  unfold afterTrip
  split <;> [(split <;> exact nofun); exact nofun]

/-! ### Admission (03) -/

/-- R56, R57, R65: an admission leaves its gate's record as the stages give it and every other gate's alone. -/
theorem gate_admit (s : State) (g k : GateIx) (x : Submission) :
    State.gate (State.admission s g x) k =
      if k = g then Gate.withAdmission (State.gate s g) x (State.stages s g x) (State.cycle s) else State.gate s k := by
  have h : (State.admission s g x).adu.gates = (State.setGate s g
      (Gate.withAdmission (State.gate s g) x (State.stages s g x) (State.cycle s))).adu.gates := by
    simp only [State.admission]
    split <;> simp [State.countAdmission]
  rw [gate_congr h, gate_setGate]

/-- R56: an admission changes the tally by its gate's recorded flow alone. -/
theorem admit_tally (s : State) (g : GateIx) (x : Submission) :
    (State.admission s g x).adu.tally =
      tallyChange s.adu.tally (State.gate s g).flow (State.stages s g x).flow := by
  simp only [State.admission]
  split <;> simp [State.countAdmission]

/-- What an admission leaves alone. -/
theorem admit_frame (s : State) (g : GateIx) (x : Submission) :
    (State.admission s g x).rpu = s.rpu ∧ (State.admission s g x).scu = s.scu ∧ (State.admission s g x).clu = s.clu ∧
    (State.admission s g x).sqe = s.sqe ∧ (State.admission s g x).spu = s.spu ∧ (State.admission s g x).mgu = s.mgu ∧
    (State.admission s g x).tst = s.tst ∧ (State.admission s g x).handed = s.handed ∧
    (State.admission s g x).freeCount = s.freeCount ∧ (State.admission s g x).pending = s.pending ∧
    (State.admission s g x).adu.base = s.adu.base ∧ (State.admission s g x).adu.gauges = s.adu.gauges := by
  simp only [State.admission]
  split <;> simp [State.countAdmission]

/-- R68: a refusal changes its gate's last refusal and REFUSED, and nothing else. -/
theorem refuse_frame (s : State) (g : GateIx) (cmd : Option DispatchCommand) (why : RefusalReason) :
    (State.refuse s g cmd why).rpu = s.rpu ∧ (State.refuse s g cmd why).scu = s.scu ∧
    (State.refuse s g cmd why).clu = s.clu ∧ (State.refuse s g cmd why).sqe = s.sqe ∧
    (State.refuse s g cmd why).spu = s.spu ∧ (State.refuse s g cmd why).mgu = s.mgu ∧
    (State.refuse s g cmd why).tst = s.tst ∧ (State.refuse s g cmd why).handed = s.handed ∧
    (State.refuse s g cmd why).pending = s.pending ∧ (State.refuse s g cmd why).adu.tally = s.adu.tally ∧
    ∀ k, k ≠ g → State.gate (State.refuse s g cmd why) k = State.gate s k := by
  cases cmd with
  | none => simp [State.refuse]
  | some c =>
    refine ⟨rfl, rfl, rfl, rfl, rfl, rfl, rfl, rfl, rfl, rfl, fun k hk => ?_⟩
    exact gate_setGate_ne s _ hk

/-! ### The cascade links (06) -/

/-- R111: everything that producing a message can do. -/
theorem produce_spec (s : State) (p : Port) (m : Produced) : ProducedTo s p m (State.produce s p m) := by
  unfold ProducedTo State.produce
  refine ⟨fun h1 => ?_, fun h1 h2 => ?_, fun h1 h2 h3 => ?_, fun h1 h2 h3 => ?_⟩ <;>
  cases hs : (State.port s p).state <;> cases hr : (State.port s p).register <;>
    cases hd : (State.port s p).deferred <;> simp_all [LinkPort.enter, nextTag]

/-- R111: what producing a message leaves alone. -/
theorem produce_frame (s : State) (p : Port) (m : Produced) :
    (State.produce s p m).rpu = s.rpu ∧ (State.produce s p m).adu = s.adu ∧ (State.produce s p m).scu = s.scu ∧
    (State.produce s p m).sqe = s.sqe ∧ (State.produce s p m).spu = s.spu ∧ (State.produce s p m).mgu = s.mgu ∧
    (State.produce s p m).tst = s.tst ∧ (State.produce s p m).handed = s.handed ∧
    (State.produce s p m).pending = s.pending ∧ (State.produce s p m).clu.arrivals = s.clu.arrivals ∧
    (State.produce s p m).clu.inflow = s.clu.inflow := by
  simp only [State.produce]
  split <;> simp

/-- R111: the tag count is never 0. -/
theorem nextTag_ne_zero (t : Byte) : nextTag t ≠ 0 := by
  unfold nextTag
  split
  · decide
  · rename_i h
    intro e
    apply h
    have := congrArg (· - 1) e
    simpa using this

/-- R119: where a new entry goes: after every entry due before it, at the head of the queue, and ahead of the rest. -/
theorem insertArrival_eq (e : Arrival) (l : List Arrival) :
    insertArrival e l = l.takeWhile (fun x => dueBefore x.due e.due) ++
      e :: l.dropWhile (fun x => dueBefore x.due e.due) := by
  induction l with
  | nil => rfl
  | cons x rest ih =>
    simp only [insertArrival, List.takeWhile, List.dropWhile]
    cases dueBefore x.due e.due <;> simp [ih]

/-- R119: replacing the entry of the same due interval keeps the due intervals. -/
@[simp] theorem due_replaceArrival (e : Arrival) (l : List Arrival) :
    (replaceArrival e l).map Arrival.due = l.map Arrival.due := by
  induction l with
  | nil => rfl
  | cons x rest ih =>
    simp only [replaceArrival, List.map_cons, List.cons.injEq] at ih ⊢
    refine ⟨?_, ih⟩
    split <;> simp_all

/-- R109: a valid message on an UP port. -/
theorem validMsg_up {s : State} {p : Port} (h : (State.port s p).state = .up) :
    State.validMsg s p = State.setPort s p { State.port s p with miswired := false, silence := 0 } := by
  simp only [State.validMsg, h]
  rw [if_neg (by simp)]

/-! ### The engine and the boundary -/

/-- R132: what handing on a CURTAIL_UP does. -/
theorem handCurtail_eq (s : State) (c : Option (Nat × Nat)) :
    State.handCurtail s c = { s with handed := { s.handed with curtails := s.handed.curtails ++ c.toList } } := by
  cases c <;> simp [State.handCurtail]

/-- R130: what an entry leaves alone. -/
theorem enter_frame (s : State) (dst : Nat) (cause : EntryCause) :
    (State.enter s dst cause).rpu = s.rpu ∧ (State.enter s dst cause).adu = s.adu ∧
    (State.enter s dst cause).scu = s.scu ∧ (State.enter s dst cause).clu = s.clu ∧
    (State.enter s dst cause).spu = s.spu ∧ (State.enter s dst cause).mgu = s.mgu ∧
    (State.enter s dst cause).tst = s.tst ∧ (State.enter s dst cause).pending = s.pending ∧
    (State.enter s dst cause).sqe = Sqe.entered s.sqe s.table dst cause := by
  simp [State.enter, handCurtail_eq, State.handActions]

/-- R98: what the entry test leaves alone. -/
theorem floodTest_frame (s : State) :
    (State.floodTest s).rpu = s.rpu ∧ (State.floodTest s).adu = s.adu ∧ (State.floodTest s).clu = s.clu ∧
    (State.floodTest s).sqe = s.sqe ∧ (State.floodTest s).spu = s.spu ∧ (State.floodTest s).mgu = s.mgu ∧
    (State.floodTest s).tst = s.tst ∧ (State.floodTest s).handed = s.handed ∧
    (State.floodTest s).pending = s.pending := by
  unfold State.floodTest
  split
  · simp
  · split <;> simp

end Sys2Proof.Machine
end

