-- ==== Sys2Proof/Laws/Memory.lean ====
section
/-! SUPPORT. The word stores (Machine/Memory.lean): a read after a write, the canonical form (log 21), and what
an install leaves in the TABLE space. -/

namespace Sys2Proof.Machine

/-- Every address of a store lies above `k`. -/
def WordStore.above (k : Nat) (t : WordStore) : Prop := ∀ p ∈ t, k < p.1

/-- The canonical form, one entry at a time. -/
theorem wf_cons (k : Nat) (w : Word) (t : WordStore) :
    WordStore.wf ((k, w) :: t) = true ↔ w ≠ unlistedWord ∧ WordStore.above k t ∧ WordStore.wf t = true := by
  induction t generalizing k w with
  | nil => simp [WordStore.wf, WordStore.above]
  | cons p rest ih =>
    obtain ⟨k', w'⟩ := p
    have h := ih k' w'
    simp only [WordStore.wf, Bool.and_eq_true, bne_iff_ne, ne_eq, decide_eq_true_eq] at h ⊢
    constructor
    · rintro ⟨⟨hw, hk⟩, ht⟩
      refine ⟨hw, ?_, ht⟩
      intro q hq
      rcases List.mem_cons.mp hq with rfl | hq
      · exact hk
      · exact Nat.lt_trans hk ((h.mp ht).2.1 q hq)
    · rintro ⟨hw, ha, ht⟩
      exact ⟨⟨hw, ha (k', w') (by simp)⟩, ht⟩

/-- An address below every listed one reads as unlisted. -/
theorem read_below {k : Nat} {t : WordStore} (h : WordStore.above k t) (a : Nat) (ha : a ≤ k) :
    WordStore.read t a = unlistedWord := by
  induction t with
  | nil => rfl
  | cons p rest ih =>
    have hp := h p (by simp)
    have : p.1 ≠ a := by omega
    simp only [WordStore.read, this, if_false]
    exact ih (fun q hq => h q (by simp [hq]))

theorem above_write {k : Nat} {t : WordStore} (h : WordStore.above k t) {a : Nat} (ha : k < a) (w : Word) :
    WordStore.above k (WordStore.write t a w) := by
  induction t with
  | nil => unfold WordStore.write; split <;> simp [WordStore.above, ha]
  | cons p rest ih =>
    have hp : k < p.1 := h p (by simp)
    have hr : WordStore.above k rest := fun q hq => h q (by simp [hq])
    have hi := ih hr
    unfold WordStore.write
    intro q hq
    split at hq
    · split at hq
      · exact hr q hq
      · rcases List.mem_cons.mp hq with rfl | hq <;> [exact ha; exact hr q hq]
    · split at hq
      · split at hq
        · exact h q hq
        · rcases List.mem_cons.mp hq with rfl | hq <;> [exact ha; exact h q hq]
      · rcases List.mem_cons.mp hq with rfl | hq <;> [exact hp; exact hi q hq]

/-- A write keeps the canonical form. -/
theorem wf_write {t : WordStore} (h : WordStore.wf t = true) (a : Nat) (w : Word) :
    WordStore.wf (WordStore.write t a w) = true := by
  induction t with
  | nil => unfold WordStore.write; split <;> simp_all [WordStore.wf]
  | cons p rest ih =>
    obtain ⟨k, v⟩ := p
    obtain ⟨hv, hk, hr⟩ := (wf_cons k v rest).mp h
    unfold WordStore.write
    split
    · split
      · exact hr
      · subst_vars; exact (wf_cons _ _ _).mpr ⟨‹_›, hk, hr⟩
    · split
      · split
        · exact h
        · refine (wf_cons _ _ _).mpr ⟨‹_›, ?_, h⟩
          intro q hq
          rcases List.mem_cons.mp hq with rfl | hq
          · assumption
          · exact Nat.lt_trans ‹_› (hk q hq)
      · exact (wf_cons _ _ _).mpr ⟨hv, above_write hk (by omega) w, ih hr⟩

/-- A read after a write: the word written at its address, and what stood there at every other. -/
theorem read_write {t : WordStore} (h : WordStore.wf t = true) (a b : Nat) (w : Word) :
    WordStore.read (WordStore.write t a w) b = if b = a then w else WordStore.read t b := by
  induction t with
  | nil =>
    by_cases hw : w = unlistedWord <;> by_cases hb : b = a
    · simp [WordStore.write, WordStore.read, hw]
    · simp [WordStore.write, WordStore.read, hw]
    · simp [WordStore.write, WordStore.read, hw, hb]
    · simp [WordStore.write, WordStore.read, hw, hb, Ne.symm hb]
  | cons p rest ih =>
    obtain ⟨k, v⟩ := p
    obtain ⟨hv, hk, hr⟩ := (wf_cons k v rest).mp h
    have hb : ∀ x, x ≤ k → WordStore.read rest x = unlistedWord := fun x hx => read_below hk x hx
    have hi := ih hr
    by_cases hka : k = a
    · subst hka
      by_cases hw : w = unlistedWord <;> by_cases hbk : b = k
      · simp [WordStore.write, hw, hbk, hb k (le_refl k)]
      · simp [WordStore.write, WordStore.read, hw, hbk, Ne.symm hbk]
      · simp [WordStore.write, WordStore.read, hw, hbk]
      · simp [WordStore.write, WordStore.read, hw, hbk, Ne.symm hbk]
    · by_cases hlt : a < k
      · by_cases hw : w = unlistedWord <;> by_cases hba : b = a
        · have hkb : k ≠ b := by omega
          simp [WordStore.write, WordStore.read, hka, hlt, hw, hkb, hb b (by omega)]
        · simp [WordStore.write, hka, hlt, hw, hba]
        · simp [WordStore.write, WordStore.read, hka, hlt, hw, hba]
        · simp [WordStore.write, WordStore.read, hka, hlt, hw, hba, Ne.symm hba]
      · by_cases hkb : k = b
        · subst hkb
          simp [WordStore.write, WordStore.read, hka, hlt]
        · simp [WordStore.write, WordStore.read, hka, hlt, hkb, hi]

/-- A store with part of its entries dropped keeps the canonical form. -/
theorem wf_filter {t : WordStore} (h : WordStore.wf t = true) (p : Nat × Word → Bool) :
    WordStore.wf (t.filter p) = true := by
  induction t with
  | nil => rfl
  | cons q rest ih =>
    obtain ⟨k, v⟩ := q
    obtain ⟨hv, hk, hr⟩ := (wf_cons k v rest).mp h
    rw [List.filter_cons]
    split
    · exact (wf_cons _ _ _).mpr ⟨hv, fun q hq => hk q (List.mem_of_mem_filter hq), ih hr⟩
    · exact ih hr

/-- Reading a store some of whose addresses are dropped. -/
theorem read_filter {t : WordStore} (p : Nat → Bool) (a : Nat) :
    WordStore.read (t.filter (fun q => p q.1)) a = if p a then WordStore.read t a else unlistedWord := by
  induction t with
  | nil => simp [WordStore.read]
  | cons q rest ih =>
    obtain ⟨k, v⟩ := q
    rw [List.filter_cons]
    by_cases hk : k = a
    · subst hk
      by_cases hp : p k = true
      · simp [hp, WordStore.read]
      · simp [hp, ih]
    · by_cases hp : p k = true <;> simp [hp, WordStore.read, hk, ih]

/-- Two stores, one wholly below the other, joined. -/
theorem wf_append {t u : WordStore} (m : Nat) (ht : WordStore.wf t = true) (hu : WordStore.wf u = true)
    (htm : ∀ p ∈ t, p.1 < m) (hum : ∀ p ∈ u, m ≤ p.1) : WordStore.wf (t ++ u) = true := by
  induction t with
  | nil => exact hu
  | cons q rest ih =>
    obtain ⟨k, v⟩ := q
    obtain ⟨hv, hk, hr⟩ := (wf_cons k v rest).mp ht
    refine (wf_cons _ _ _).mpr ⟨hv, ?_, ih hr (fun p hp => htm p (by simp [hp]))⟩
    intro p hp
    rcases List.mem_append.mp hp with hp | hp
    · exact hk p hp
    · have := htm (k, v) (by simp); have := hum p hp; omega

/-- R158: copying a range of words keeps the canonical form. -/
theorem wf_copyRange (src : WordStore) (base len : Nat) {dst : WordStore} (h : WordStore.wf dst = true) :
    WordStore.wf (WordStore.copyRange src base len dst) = true := by
  unfold WordStore.copyRange
  generalize List.range len = l
  induction l generalizing dst with
  | nil => exact h
  | cons i rest ih => exact ih (wf_write h _ _)

/-- R158: a range of words copied: the source's words in the range, the destination's elsewhere. -/
theorem read_copyRange (src : WordStore) (base len : Nat) {dst : WordStore} (h : WordStore.wf dst = true) (a : Nat) :
    WordStore.read (WordStore.copyRange src base len dst) a =
      if base ≤ a ∧ a < base + len then WordStore.read src a else WordStore.read dst a := by
  unfold WordStore.copyRange
  induction len with
  | zero => simp
  | succ n ih =>
    rw [List.range_succ, List.foldl_append]
    have hw := wf_copyRange src base n h
    unfold WordStore.copyRange at hw
    simp only [List.foldl_cons, List.foldl_nil, read_write hw, ih]
    by_cases h1 : a = base + n
    · subst h1; simp
    · by_cases h2 : base ≤ a ∧ a < base + n
      · have : base ≤ a ∧ a < base + (n + 1) := by omega
        simp [h1, h2, this]
      · have : ¬ (base ≤ a ∧ a < base + (n + 1)) := by omega
        simp [h1, h2, this]

/-- R158: an install of one group keeps the canonical form of the TABLE space. -/
theorem wf_installGroup (n : Nat) (words : WordStore) {table : WordStore} (h : WordStore.wf table = true) :
    WordStore.wf (installGroup n words table) = true := wf_copyRange _ _ _ h

/-- R155: the copy of a group keeps the canonical form. -/
theorem wf_copyGroup (n : Nat) {table : WordStore} (h : WordStore.wf table = true) :
    WordStore.wf (copyGroup n table) = true := wf_filter h _

/-- R164: the words a STORE copies keep the canonical form. -/
theorem wf_storedWords {table : WordStore} (h : WordStore.wf table = true) :
    WordStore.wf (storedWords table) = true := wf_filter h _

/-- R165: an install of all groups keeps the canonical form. -/
theorem wf_installAll {words table : WordStore} (hw : WordStore.wf words = true) (ht : WordStore.wf table = true) :
    WordStore.wf (installAll words table) = true := by
  refine wf_append reqCeilingHigh (wf_storedWords hw) (wf_filter ht _) ?_ ?_
  · intro p hp; simpa using (List.mem_filter.mp hp).2
  · intro p hp
    have := (List.mem_filter.mp hp).2
    simp [inRequestArea] at this
    exact this.1

/-- 09 Table 9-7: the blank image's words are in canonical form. -/
theorem wf_blankWords : WordStore.wf blankWords = true := by decide

/-- The stores of the machine after reset are in canonical form. -/
theorem reset_stores : Safety.StoresOk State.reset := ⟨rfl, rfl, fun _ h => nomatch h⟩

end Sys2Proof.Machine
end

