-- ==== Sys2Proof/Laws/PerInstr.lean ====
section
/-! SUPPORT. Statements about every command as syntax, one lemma per constructor. -/

namespace Sys2Proof.Laws

open Machine

/-- The ring frame that a command brings, for the commands that are the arrival of one. -/
def Families.ringFrame : Instr → Option Frame
  | .cycleMarker m _ => some (markerFrame m)
  | .commandSlotFrame f | .excessFrame f | .badCheckFrame f | .untappedFrame f | .frameOutsideCycle f
  | .frameInLoad f => some f
  | .position f => some (goodFrame kindPosition f)
  | .stage f => some (goodFrame kindStage f)
  | .heartbeat f => some (goodFrame kindHeartbeat f)
  | .noticeSlot f => some (goodFrame kindIdle f)
  | .misrouted f => some (goodFrame kindSetpoint f)
  | .read q => some (requestFrame 1 q)
  | .readNext q => some (requestFrame 2 q)
  | .write q => some (requestFrame 3 q)
  | .writeNext q => some (requestFrame 4 q)
  | .setPointer q => some (requestFrame 5 q)
  | .openEdit q => some (requestFrame 6 q)
  | .check q => some (requestFrame 7 q)
  | .abandon q => some (requestFrame 8 q)
  | .capture q => some (requestFrame 9 q)
  | .nakOpRequest op q => some (requestFrame op q)
  | .engineHold q => some (commandFrame 0 q)
  | .engineRun q => some (commandFrame 1 q)
  | .engineStep q => some (commandFrame 2 q)
  | .engineRestart q => some (commandFrame 3 q)
  | .store q => some (commandFrame 4 q)
  | .reload q => some (commandFrame 5 q)
  | .lockRaise q => some (commandFrame 6 q)
  | .lockLower q => some (commandFrame 7 q)
  | .commissionLock q => some (commandFrame 8 q)
  | .gateOut q => some (commandFrame 9 q)
  | .gateIn q => some (commandFrame 10 q)
  | .scheduleStart q => some (commandFrame 11 q)
  | .floodDeclare q => some (commandFrame 12 q)
  | .floodCancel q => some (commandFrame 13 q)
  | .curtailRequest q => some (commandFrame 14 q)
  | .powerOn | .resetNAssert _ | .resetNRelease | .startUpLoadComplete | .ringLoss | .intervalBoundary
  | .reRating | .arrivalMaturity | .supervisionWindowExpiry | .engineEvaluation | .actionListApply
  | .curtailUp | .storeComplete _ | .reloadComplete _ | .commissionLockComplete _ | .panelInputChange _ _ _
  | .beaconDue _ | .linkTransmit _ | .linkByteTimeout _ _ | .beacon _ _ | .taken _ _ | .release _
  | .curtail _ | .wrongDirectionMessage _ _ _ | .silenceExpiry _ | .takenTimeout _ | .badCheckMessage _ _
  | .miswiredMessage _ _ => none

/-- Whether a command may be the arrival of a cycle marker: CYCLE_MARKER is, and a frame taken in LOAD may have any
form (R2, R19). -/
def Families.mayBeMarker : Instr → Prop
  | .cycleMarker _ _ | .frameInLoad _ => True
  | _ => False

/-- R2, R3: a well-formed command brings a cycle marker only if it is CYCLE_MARKER or a frame in LOAD, and a
CYCLE_MARKER does bring one. -/
def Families.Statement (i : Instr) : Prop :=
  i.wellFormed = true → ∀ f, Families.ringFrame i = some f →
    (Frame.isMarker f = true → Families.mayBeMarker i) ∧ (∀ m late, i = .cycleMarker m late → Frame.isMarker f = true)

/-- A good frame of another kind is no marker. -/
theorem Families.goodFrame_noMarker {k : BitVec 4} (h : (k == kindCycle) = false) (f : FrameFields) :
    Frame.isMarker (goodFrame k f) = false := by
  have hk : (goodFrame k f).kind = k := rfl
  simp only [Frame.isMarker, hk, h, Bool.and_false]

theorem Families.powerOn : Families.Statement .powerOn := by
  intro _ g hg; cases hg

theorem Families.resetNAssert (short : Bool) : Families.Statement (.resetNAssert short) := by
  intro _ g hg; cases hg

theorem Families.resetNRelease : Families.Statement .resetNRelease := by
  intro _ g hg; cases hg

theorem Families.startUpLoadComplete : Families.Statement .startUpLoadComplete := by
  intro _ g hg; cases hg

theorem Families.cycleMarker (m : MarkerFields) (agesLate : Bool) : Families.Statement (.cycleMarker m agesLate) := by
  intro _ g hg
  cases hg
  refine ⟨fun _ => trivial, fun _ _ _ => ?_⟩
  have hk : (markerFrame m).kind = kindCycle := rfl
  have hc : (markerFrame m).check = ringCheck (Frame.body (markerFrame m)) := rfl
  simp only [Frame.isMarker, Frame.good, hk, hc, beq_self_eq_true, Bool.and_self]

theorem Families.ringLoss : Families.Statement .ringLoss := by
  intro _ g hg; cases hg

theorem Families.intervalBoundary : Families.Statement .intervalBoundary := by
  intro _ g hg; cases hg

theorem Families.reRating : Families.Statement .reRating := by
  intro _ g hg; cases hg

theorem Families.arrivalMaturity : Families.Statement .arrivalMaturity := by
  intro _ g hg; cases hg

theorem Families.supervisionWindowExpiry : Families.Statement .supervisionWindowExpiry := by
  intro _ g hg; cases hg

theorem Families.engineEvaluation : Families.Statement .engineEvaluation := by
  intro _ g hg; cases hg

theorem Families.actionListApply : Families.Statement .actionListApply := by
  intro _ g hg; cases hg

theorem Families.curtailUp : Families.Statement .curtailUp := by
  intro _ g hg; cases hg

theorem Families.commandSlotFrame (f : Frame) : Families.Statement (.commandSlotFrame f) := by
  intro h g hg; cases hg
  have h : (!Frame.isMarker f) = true := h
  exact ⟨fun hm => by rw [hm] at h; exact absurd h (by decide), fun _ _ e => nomatch e⟩

theorem Families.position (f : FrameFields) : Families.Statement (.position f) := by
  intro _ g hg; cases hg
  exact ⟨fun hm => absurd (hm.symm.trans (Families.goodFrame_noMarker rfl _)) (by decide), fun _ _ e => nomatch e⟩

theorem Families.stage (f : FrameFields) : Families.Statement (.stage f) := by
  intro _ g hg; cases hg
  exact ⟨fun hm => absurd (hm.symm.trans (Families.goodFrame_noMarker rfl _)) (by decide), fun _ _ e => nomatch e⟩

theorem Families.heartbeat (f : FrameFields) : Families.Statement (.heartbeat f) := by
  intro _ g hg; cases hg
  exact ⟨fun hm => absurd (hm.symm.trans (Families.goodFrame_noMarker rfl _)) (by decide), fun _ _ e => nomatch e⟩

theorem Families.noticeSlot (f : FrameFields) : Families.Statement (.noticeSlot f) := by
  intro _ g hg; cases hg
  exact ⟨fun hm => absurd (hm.symm.trans (Families.goodFrame_noMarker rfl _)) (by decide), fun _ _ e => nomatch e⟩

theorem Families.excessFrame (f : Frame) : Families.Statement (.excessFrame f) := by
  intro h g hg; cases hg
  have h : (!Frame.isMarker f) = true := h
  exact ⟨fun hm => by rw [hm] at h; exact absurd h (by decide), fun _ _ e => nomatch e⟩

theorem Families.misrouted (f : FrameFields) : Families.Statement (.misrouted f) := by
  intro _ g hg; cases hg
  exact ⟨fun hm => absurd (hm.symm.trans (Families.goodFrame_noMarker rfl _)) (by decide), fun _ _ e => nomatch e⟩

theorem Families.badCheckFrame (f : Frame) : Families.Statement (.badCheckFrame f) := by
  intro h g hg; cases hg
  have h : (!Frame.good f) = true := h
  refine ⟨fun hm => ?_, fun _ _ e => nomatch e⟩
  simp_all [Frame.isMarker]

theorem Families.untappedFrame (f : Frame) : Families.Statement (.untappedFrame f) := by
  intro h g hg; cases hg
  refine ⟨fun hm => ?_, fun _ _ e => nomatch e⟩
  simp_all [Instr.wellFormed, Frame.isMarker]

theorem Families.frameOutsideCycle (f : Frame) : Families.Statement (.frameOutsideCycle f) := by
  intro h g hg; cases hg
  have h : (!Frame.isMarker f) = true := h
  exact ⟨fun hm => by rw [hm] at h; exact absurd h (by decide), fun _ _ e => nomatch e⟩

theorem Families.frameInLoad (f : Frame) : Families.Statement (.frameInLoad f) := by
  intro _ g hg; cases hg; exact ⟨fun _ => trivial, fun _ _ e => nomatch e⟩

theorem Families.read (q : Request) : Families.Statement (.read q) := by
  intro _ g hg; cases hg
  exact ⟨fun hm => absurd (hm.symm.trans (Families.goodFrame_noMarker rfl _)) (by decide), fun _ _ e => nomatch e⟩

theorem Families.readNext (q : Request) : Families.Statement (.readNext q) := by
  intro _ g hg; cases hg
  exact ⟨fun hm => absurd (hm.symm.trans (Families.goodFrame_noMarker rfl _)) (by decide), fun _ _ e => nomatch e⟩

theorem Families.write (q : Request) : Families.Statement (.write q) := by
  intro _ g hg; cases hg
  exact ⟨fun hm => absurd (hm.symm.trans (Families.goodFrame_noMarker rfl _)) (by decide), fun _ _ e => nomatch e⟩

theorem Families.writeNext (q : Request) : Families.Statement (.writeNext q) := by
  intro _ g hg; cases hg
  exact ⟨fun hm => absurd (hm.symm.trans (Families.goodFrame_noMarker rfl _)) (by decide), fun _ _ e => nomatch e⟩

theorem Families.setPointer (q : Request) : Families.Statement (.setPointer q) := by
  intro _ g hg; cases hg
  exact ⟨fun hm => absurd (hm.symm.trans (Families.goodFrame_noMarker rfl _)) (by decide), fun _ _ e => nomatch e⟩

theorem Families.openEdit (q : Request) : Families.Statement (.openEdit q) := by
  intro _ g hg; cases hg
  exact ⟨fun hm => absurd (hm.symm.trans (Families.goodFrame_noMarker rfl _)) (by decide), fun _ _ e => nomatch e⟩

theorem Families.check (q : Request) : Families.Statement (.check q) := by
  intro _ g hg; cases hg
  exact ⟨fun hm => absurd (hm.symm.trans (Families.goodFrame_noMarker rfl _)) (by decide), fun _ _ e => nomatch e⟩

theorem Families.abandon (q : Request) : Families.Statement (.abandon q) := by
  intro _ g hg; cases hg
  exact ⟨fun hm => absurd (hm.symm.trans (Families.goodFrame_noMarker rfl _)) (by decide), fun _ _ e => nomatch e⟩

theorem Families.capture (q : Request) : Families.Statement (.capture q) := by
  intro _ g hg; cases hg
  exact ⟨fun hm => absurd (hm.symm.trans (Families.goodFrame_noMarker rfl _)) (by decide), fun _ _ e => nomatch e⟩

theorem Families.engineHold (q : CommandRequest) : Families.Statement (.engineHold q) := by
  intro _ g hg; cases hg
  exact ⟨fun hm => absurd (hm.symm.trans (Families.goodFrame_noMarker rfl _)) (by decide), fun _ _ e => nomatch e⟩

theorem Families.engineRun (q : CommandRequest) : Families.Statement (.engineRun q) := by
  intro _ g hg; cases hg
  exact ⟨fun hm => absurd (hm.symm.trans (Families.goodFrame_noMarker rfl _)) (by decide), fun _ _ e => nomatch e⟩

theorem Families.engineStep (q : CommandRequest) : Families.Statement (.engineStep q) := by
  intro _ g hg; cases hg
  exact ⟨fun hm => absurd (hm.symm.trans (Families.goodFrame_noMarker rfl _)) (by decide), fun _ _ e => nomatch e⟩

theorem Families.engineRestart (q : CommandRequest) : Families.Statement (.engineRestart q) := by
  intro _ g hg; cases hg
  exact ⟨fun hm => absurd (hm.symm.trans (Families.goodFrame_noMarker rfl _)) (by decide), fun _ _ e => nomatch e⟩

theorem Families.store (q : CommandRequest) : Families.Statement (.store q) := by
  intro _ g hg; cases hg
  exact ⟨fun hm => absurd (hm.symm.trans (Families.goodFrame_noMarker rfl _)) (by decide), fun _ _ e => nomatch e⟩

theorem Families.storeComplete (readBackOk : Bool) : Families.Statement (.storeComplete readBackOk) := by
  intro _ g hg; cases hg

theorem Families.reload (q : CommandRequest) : Families.Statement (.reload q) := by
  intro _ g hg; cases hg
  exact ⟨fun hm => absurd (hm.symm.trans (Families.goodFrame_noMarker rfl _)) (by decide), fun _ _ e => nomatch e⟩

theorem Families.reloadComplete (order : List InstallTaker) : Families.Statement (.reloadComplete order) := by
  intro _ g hg; cases hg

theorem Families.lockRaise (q : CommandRequest) : Families.Statement (.lockRaise q) := by
  intro _ g hg; cases hg
  exact ⟨fun hm => absurd (hm.symm.trans (Families.goodFrame_noMarker rfl _)) (by decide), fun _ _ e => nomatch e⟩

theorem Families.lockLower (q : CommandRequest) : Families.Statement (.lockLower q) := by
  intro _ g hg; cases hg
  exact ⟨fun hm => absurd (hm.symm.trans (Families.goodFrame_noMarker rfl _)) (by decide), fun _ _ e => nomatch e⟩

theorem Families.commissionLock (q : CommandRequest) : Families.Statement (.commissionLock q) := by
  intro _ g hg; cases hg
  exact ⟨fun hm => absurd (hm.symm.trans (Families.goodFrame_noMarker rfl _)) (by decide), fun _ _ e => nomatch e⟩

theorem Families.commissionLockComplete (readBackOk : Bool) : Families.Statement (.commissionLockComplete readBackOk) := by
  intro _ g hg; cases hg

theorem Families.gateOut (q : CommandRequest) : Families.Statement (.gateOut q) := by
  intro _ g hg; cases hg
  exact ⟨fun hm => absurd (hm.symm.trans (Families.goodFrame_noMarker rfl _)) (by decide), fun _ _ e => nomatch e⟩

theorem Families.gateIn (q : CommandRequest) : Families.Statement (.gateIn q) := by
  intro _ g hg; cases hg
  exact ⟨fun hm => absurd (hm.symm.trans (Families.goodFrame_noMarker rfl _)) (by decide), fun _ _ e => nomatch e⟩

theorem Families.scheduleStart (q : CommandRequest) : Families.Statement (.scheduleStart q) := by
  intro _ g hg; cases hg
  exact ⟨fun hm => absurd (hm.symm.trans (Families.goodFrame_noMarker rfl _)) (by decide), fun _ _ e => nomatch e⟩

theorem Families.floodDeclare (q : CommandRequest) : Families.Statement (.floodDeclare q) := by
  intro _ g hg; cases hg
  exact ⟨fun hm => absurd (hm.symm.trans (Families.goodFrame_noMarker rfl _)) (by decide), fun _ _ e => nomatch e⟩

theorem Families.floodCancel (q : CommandRequest) : Families.Statement (.floodCancel q) := by
  intro _ g hg; cases hg
  exact ⟨fun hm => absurd (hm.symm.trans (Families.goodFrame_noMarker rfl _)) (by decide), fun _ _ e => nomatch e⟩

theorem Families.curtailRequest (q : CommandRequest) : Families.Statement (.curtailRequest q) := by
  intro _ g hg; cases hg
  exact ⟨fun hm => absurd (hm.symm.trans (Families.goodFrame_noMarker rfl _)) (by decide), fun _ _ e => nomatch e⟩

theorem Families.panelInputChange (input : PanelInput) (level sampled : Bool) :
    Families.Statement (.panelInputChange input level sampled) := by
  intro _ g hg; cases hg

theorem Families.beaconDue (p : Port) : Families.Statement (.beaconDue p) := by
  intro _ g hg; cases hg

theorem Families.linkTransmit (p : Port) : Families.Statement (.linkTransmit p) := by
  intro _ g hg; cases hg

theorem Families.linkByteTimeout (p : Port) (gathered : Nat) : Families.Statement (.linkByteTimeout p gathered) := by
  intro _ g hg; cases hg

theorem Families.beacon (p : Port) (m : LinkFields) : Families.Statement (.beacon p m) := by
  intro _ g hg; cases hg

theorem Families.taken (p : Port) (m : LinkFields) : Families.Statement (.taken p m) := by
  intro _ g hg; cases hg

theorem Families.release (m : LinkFields) : Families.Statement (.release m) := by
  intro _ g hg; cases hg

theorem Families.curtail (m : LinkFields) : Families.Statement (.curtail m) := by
  intro _ g hg; cases hg

theorem Families.wrongDirectionMessage (p : Port) (kind : Byte) (m : LinkFields) : Families.Statement (.wrongDirectionMessage p kind m) := by
  intro _ g hg; cases hg

theorem Families.silenceExpiry (p : Port) : Families.Statement (.silenceExpiry p) := by
  intro _ g hg; cases hg

theorem Families.takenTimeout (p : Port) : Families.Statement (.takenTimeout p) := by
  intro _ g hg; cases hg

theorem Families.nakOpRequest (op : Byte) (q : Request) : Families.Statement (.nakOpRequest op q) := by
  intro _ g hg; cases hg
  exact ⟨fun hm => absurd (hm.symm.trans (Families.goodFrame_noMarker rfl _)) (by decide), fun _ _ e => nomatch e⟩

theorem Families.badCheckMessage (p : Port) (m : LinkMsg) : Families.Statement (.badCheckMessage p m) := by
  intro _ g hg; cases hg

theorem Families.miswiredMessage (p : Port) (m : LinkMsg) : Families.Statement (.miswiredMessage p m) := by
  intro _ g hg; cases hg

end Sys2Proof.Laws
end

