-- ==== Sys2Proof/Tests/Slice0.lean ====
section
/-! SUPPORT. Tests: ill-formed commands refused by the checks, the manual's worked examples taken one step at a
time, and for every statement with hypotheses a state and operands that meet them. -/

namespace Sys2Proof.Tests

open Machine Safety

-- the kernel evaluations below are taken one at a time
set_option Elab.async false

/-! ### The station of the tests: 03 Table 3-4, with curve 2 of 02 Table 2-5 and blocks 4 and 5 of 05 Table 5-4 -/

/-- The installed groups. -/
def table : WordStore :=
  [(0x000, 7), (0x001, 6000), (0x002, 50), (0x003, 100), (0x004, 4), (0x006, 1), (0x007, 100), (0x009, 4),
   (0x00B, 13500), (0x00D, 9000), (0x00F, 2500), (0x011, 1200), (0x014, 60000), (0x015, 500), (0x016, 2),
   (0x018, 3000)] ++
  [(0x040, 0x0300), (0x041, 0x0108), (0x042, 0x02FF), (0x043, 0x0500), (0x044, 0x0400), (0x046, 0x0100)] ++
  [(0x080, 1), (0x083, 9000), (0x084, 40), (0x085, 3), (0x086, 3), (0x089, 300), (0x08A, 3)] ++
  [(0x0D0, 3), (0x0D1, 0xFFFF), (0x0D3, 10000), (0x0D4, 40), (0x0D5, 2), (0x0D9, 300), (0x0DA, 3)] ++
  [(0x100, 2), (0x101, 0xFFFF), (0x103, 9000), (0x104, 40), (0x105, 3), (0x106, 2), (0x107, 1), (0x108, 1500),
   (0x109, 300), (0x10A, 3)] ++
  [(0x240, 4), (0x243, 3000), (0x244, 900), (0x245, 6000), (0x246, 900), (0x247, 10000), (0x248, 2100)] ++
  [(0x260, 4), (0x263, 2000), (0x264, 1500), (0x265, 5000), (0x266, 4200), (0x267, 10000), (0x268, 7600)] ++
  [(0x400, 20000), (0x401, 3686), (0x402, 30000), (0x403, 4096), (0x404, 40000), (0x405, 4730)] ++
  [(0x460, 2), (0x461, 14000), (0x462, 6000), (0x463, 1500), (0x464, 1000), (0x465, 2000), (0x466, 5)] ++
  [(0x468, 3), (0x469, 11000), (0x46A, 7000), (0x46B, 800), (0x46C, 600), (0x46D, 1500), (0x46E, 0xFFFF)] ++
  [(0x540, 2), (0x542, 2), (0x543, 1), (0x546, 0x0100), (0x547, 0x0900), (0x548, 5)] ++
  [(0x58D, 0xFFFF), (0x5C1, 3), (0x5C2, 1), (0x5C3, 6), (0x5C5, 12000), (0x5C6, 1), (0x5C7, 8), (0x5C8, 6000)] ++
  [(0x740, 1), (0x741, 1), (0x742, 2), (0x743, 1000), (0x744, 300)]

/-- Slots 0..6: MANAGEMENT, COMMAND gate 8, TELEMETRY, HEARTBEAT, NOTICE, UNUSED, COMMAND gate 0. -/
def slots : SlotTable := installedSlots table

/-- Gate 8 of 03 Table 3-4. -/
def gate8 : Gate :=
  { state := .service, admitted := 2000, flow := 1627, lastCycle := 20000, lastDir := .down,
    measured := some 2000, drive := some .ok }

/-- Gate 0: the other counted gate of the tests, a WICKET on unit 0, with the flow of the others. -/
def gate0 : Gate := { state := .service, admitted := 5000, flow := 10373, drive := some .ok }

/-- The state of 03 section 3.8.1: cycle 20050 open, dispatch PRESENT, both link ports UP. -/
def demo : Machine.State :=
  { rpu := { state := .run, cycleNumber := some 20050, active := some slots }
    adu := { gates := ((Vector.replicate 24 {}).set 8 gate8).set 0 gate0 |>.set 5 { state := .acquire }
             gauges := ((Vector.replicate 8 {}).set 0 { level := some 58300, age := 0 }).set 1
               { level := some 22800, age := 0 }
             tally := 12000, base := 12000 }
    scu := { intervalNumber := 100, intervalLength := 6000, limits := ⟨13500, 9000, 2500, 1200, 0⟩
             upper := 13500, upperTerm := .ceiling, lower := 10800, lowerTerm := .rampDown }
    clu := { up := { state := .up }, down := { state := .up } }
    spu := { sup := .present, lastSeq := some 6 }
    tst := { table := table } }

/-- The state with its next frame taken in slot `p`. -/
def inSlot (s : Machine.State) (p : Nat) : Machine.State := { s with rpu := { s.rpu with slotPos := p } }

/-- The next state of a step. -/
def after (o : Host.Outcome Machine.State Fault Refusal) : Machine.State :=
  match o with
  | .next t => t
  | _ => Machine.State.reset

/-- A good SETPOINT. -/
def sp (g a : Nat) (tag : Byte) (flags : BitVec 4) : Frame :=
  goodFrame kindSetpoint ⟨flags, BitVec.ofNat 8 g, BitVec.ofNat 16 a, 0, tag⟩

/-- Fields with an id, value A and value B. -/
def ff (id a b : Nat) : FrameFields := ⟨0, BitVec.ofNat 8 id, BitVec.ofNat 16 a, BitVec.ofNat 16 b, 9⟩

/-- A management request and a management command. -/
def rq (a b : Word) : Request := ⟨0, a, b, 7⟩
def cr (arg : Byte) : CommandRequest := ⟨0, 0, arg, 7⟩

/-- Link fields from a neighbour. -/
def lf (sender : Byte) (value : BitVec 24) (dur : Word) : LinkFields := ⟨sender, 7, 0, value, dur, 0⟩

/-- A frame whose check does not match. -/
def badFrame : Frame := { blankIdle with check := blankIdle.check + 1 }

/-! ### WellFormed: each check refuses an ill-formed command -/

theorem test_wellFormed_marker_in_a_slot :
    Instr.wellFormed (.commandSlotFrame (markerFrame ⟨0, 0, 1, 0⟩)) = false ∧
    Instr.wellFormed (.excessFrame (markerFrame ⟨0, 0, 1, 0⟩)) = false ∧
    Instr.wellFormed (.frameOutsideCycle (markerFrame ⟨0, 0, 1, 0⟩)) = false := by decide +kernel

theorem test_wellFormed_badCheckFrame_good : Instr.wellFormed (.badCheckFrame blankIdle) = false := by decide +kernel

theorem test_wellFormed_untappedFrame :
    Instr.wellFormed (.untappedFrame badFrame) = false ∧
    Instr.wellFormed (.untappedFrame (markerFrame ⟨0, 0, 1, 0⟩)) = false ∧
    Instr.wellFormed (.untappedFrame (sp 8 0 0 0)) = false := by decide +kernel

theorem test_wellFormed_linkByteTimeout_no_part :
    Instr.wellFormed (.linkByteTimeout .up 0) = false ∧ Instr.wellFormed (.linkByteTimeout .up 12) = false := by
  decide

theorem test_wellFormed_wrongDirectionMessage_right :
    Instr.wellFormed (.wrongDirectionMessage .up msgRelease (lf 3 0 0)) = false ∧
    Instr.wellFormed (.wrongDirectionMessage .down msgCurtail (lf 5 0 0)) = false ∧
    Instr.wellFormed (.wrongDirectionMessage .up msgTaken (lf 3 0 0)) = false ∧
    Instr.wellFormed (.wrongDirectionMessage .up msgBeacon (lf 3 0 0)) = false := by decide

theorem test_wellFormed_nakOpRequest_defined :
    Instr.wellFormed (.nakOpRequest 1 (rq 0 0)) = false ∧
    Instr.wellFormed (.nakOpRequest 10 (rq 0 0x0E00)) = false := by decide

theorem test_wellFormed_badCheckMessage_good :
    Instr.wellFormed (.badCheckMessage .up (goodMsg msgBeacon (lf 3 0 0))) = false := by decide +kernel

theorem test_wellFormed_miswiredMessage_bad :
    Instr.wellFormed (.miswiredMessage .up { goodMsg msgBeacon (lf 7 0 0) with sender := 6 }) = false := by
  decide +kernel

theorem test_wellFormed_reloadComplete_repeats : Instr.wellFormed (.reloadComplete [.adu, .adu]) = false := by decide

/-! ### Decode and the two checks -/

/-- spec/opcode_table.json gives no row any bits. -/
theorem test_decodeTableWord_gives_no_command : decodeTableWord 16 0x1234 = none := rfl

/-- R174 is CRC-16 with preset 0xFFFF; its value over the digits 1 to 9, worked by hand from the rule's shifts. -/
theorem test_linkCheck_digits : linkCheck [0x31, 0x32, 0x33, 0x34, 0x35, 0x36, 0x37, 0x38, 0x39] = 0x29B1 := by
  decide +kernel

/-- R173 over one byte 0xFF: the register is 0 after the byte is combined, and stays 0. -/
theorem test_ringCheck_cancelled_preset : ringCheck [0xFF] = 0 := by decide +kernel

/-- R173 over one byte 0xFE: the register is 0x01 after the byte; eight shifts leave the polynomial's low bits. -/
theorem test_ringCheck_one_bit : ringCheck [0xFE] = 0x07 := by decide +kernel

/-! ### Rating (02 section 2.7) -/

/-- The head of 02 section 2.7 and its factor, and Table 2-6. -/
theorem test_rating_table_2_6 :
    State.head demo = 35500 ∧ headFactor (headPoints table) 35500 = 4444 ∧
    flowAt table 5 35500 2999 = 975 ∧ flowAt table 5 35500 3000 = 976 ∧ flowAt table 5 35500 6003 = 976 ∧
    flowAt table 5 35500 6004 = 977 ∧ flowAt table 5 35500 7000 = 1301 := by decide +kernel

/-- Gate 8 of 02 section 2.7 at saturation. -/
theorem test_rating_saturates :
    ratedFlow [(8000, 48000), (10000, 60000)] 4730 9458 < 65535 ∧
    ratedFlow [(8000, 48000), (10000, 60000)] 4730 9459 = 65535 ∧
    ratedFlow [(8000, 48000), (10000, 60000)] 4730 10000 = 65535 := by decide +kernel

/-- Up and Down near the ends of the flat stretch of 02 section 2.7. -/
theorem test_rating_inverses :
    upTo (ratedFlow (curvePoints table 2) 4444) 976 5990 6010 = 6003 ∧
    downTo (ratedFlow (curvePoints table 2) 4444) 976 2990 3010 = 3000 := by decide +kernel

/-! ### Admission (03 section 3.8) -/

/-- 03 Table 3-5, case A: the rate stage and the ceiling. -/
theorem test_admission_case_A :
    let t := after (exec (.commandSlotFrame (sp 8 6000 31 0)) (inSlot demo 1))
    (State.gate t 8).admitted = 3537 ∧ (State.gate t 8).flow = 3127 ∧ t.adu.tally = 13500 ∧
    (State.gate t 8).lastDir = .up ∧ (State.gate t 8).lastCycle = 20050 ∧ (State.gate t 8).lastTag = 31 ∧
    t.ncu.counters.reversals[8] = 1 ∧ t.ncu.counters.travel[8] = 1537 ∧
    State.counter t .clampRate = 1 ∧ State.counter t .clampCeiling = 1 ∧ State.counter t .clampTravel = 0 ∧
    t.ncu.queue = [.clamp 8 ⟨.upper, some .ceiling, 6000, 3537⟩] ∧
    t.rpu.ringOut = some (goodFrame kindSetpoint ⟨2, 8, 3537, 6000, 31⟩) := by decide +kernel

/-- The state after case A, with the bounds of cases B and C, in cycle 20150. -/
def caseB : Machine.State :=
  let s := State.setGate demo 8 { gate8 with admitted := 3537, flow := 3127, lastCycle := 20050, lastDir := .up }
  { s with
    rpu := { s.rpu with cycleNumber := some 20150, slotPos := 1 }
    adu := { s.adu with tally := 13500 }
    scu := { s.scu with upper := 13500, upperTerm := .ceiling, lower := 12300, lowerTerm := .rampDown } }

/-- 03 Table 3-6, case B: the lower clamp on a ramp-down. -/
theorem test_admission_case_B :
    let t := after (exec (.commandSlotFrame (sp 8 1000 32 0)) caseB)
    (State.gate t 8).admitted = 2308 ∧ (State.gate t 8).flow = 1927 ∧ t.adu.tally = 12300 ∧
    t.ncu.counters.travel[8] = 1229 ∧ State.counter t .clampFloor = 1 ∧
    t.ncu.queue = [.clamp 8 ⟨.lower, some .rampDown, 1000, 2308⟩] ∧
    t.rpu.ringOut = some (goodFrame kindSetpoint ⟨2, 8, 2308, 1000, 32⟩) := by decide +kernel

/-- 03 section 3.8.3, case C: an urgent close from the same start. -/
theorem test_admission_case_C :
    let t := after (exec (.commandSlotFrame (sp 8 1000 33 1)) caseB)
    (State.gate t 8).admitted = 1000 ∧ (State.gate t 8).flow = 813 ∧ t.adu.tally = 11186 ∧
    t.ncu.counters.travel[8] = 2537 ∧ t.ncu.counters.reversals[8] = 1 ∧ t.ncu.queue = [] ∧
    t.rpu.ringOut = some (goodFrame kindSetpoint ⟨1, 8, 1000, 1000, 33⟩) := by decide +kernel

/-- 03 section 3.8.4, case D: held above a curtailed bound. -/
theorem test_admission_case_D :
    let x := State.stages { caseB with
      rpu := { caseB.rpu with cycleNumber := some 20060 },
      scu := { caseB.scu with upper := 13000, upperTerm := .curtail, lower := 10800 } } 8 ⟨.dispatch, 5000, false, 34⟩
    x.r1 = 3937 ∧ x.out = ⟨3537, false⟩ ∧ x.flow = 3127 ∧ Stages.reason x = .upper := by decide +kernel

/-- 03 section 3.8.5, case E: a stale recorded flow after a rise in head. -/
theorem test_admission_case_E :
    let s := State.setGauge { caseB with rpu := { caseB.rpu with cycleNumber := some 20070 } } 0 ⟨some 62800, 0, 0⟩
    let x := State.stages s 8 ⟨.dispatch, 3537, false, 35⟩
    flowAt table 8 (State.head s) 3537 = 3329 ∧ x.out = ⟨3537, true⟩ ∧ x.flow = 3127 ∧
    Stages.clamp x = false := by decide +kernel

/-- 03 Table 3-7, case F: travel limits narrowed under the gate. -/
theorem test_admission_case_F :
    let x := State.stages { caseB with
      rpu := { caseB.rpu with cycleNumber := some 20105 },
      scu := { caseB.scu with lower := 13200, lowerTerm := .floor },
      tst := { table := WordStore.write table 0x103 3000 } } 8 ⟨.dispatch, 3537, false, 36⟩
    x.r2 = 3000 ∧ x.out = ⟨3000, false⟩ ∧ x.flow = 2603 ∧ Stages.reason x = .travel := by decide +kernel

/-! ### Worked examples of the other chapters, one step each -/

/-- Gate 5 of 02 Table 2-7 as given, next to counted gates of 12000 fu, before a report in the TELEMETRY slot. -/
def gate5 (r : Gate) (tally : Nat) : Machine.State :=
  let s := State.setTally (State.setGate demo 5 r) tally
  { s with rpu := { s.rpu with cycleNumber := some 900, slotPos := 2 } }

/-- 02 Table 2-7, step 1: the first report acquires the gate. -/
theorem test_position_acquires :
    let t := after (exec (.position (ff 5 3000 0)) (gate5 { state := .acquire } 12000))
    (State.gate t 5).state = .service ∧ (State.gate t 5).admitted = 3000 ∧ (State.gate t 5).flow = 976 ∧
    t.adu.tally = 12976 ∧ (State.gate t 5).lastCycle = 900 ∧ t.ncu.queue = [.gateState 5 .service] := by
  decide +kernel

/-- 02 Table 2-7, step 4: the third deviating report. -/
theorem test_position_deviates :
    let t := after (exec (.position (ff 5 3420 0))
      (gate5 { state := .service, admitted := 3000, flow := 976, devCount := 2 } 12976))
    (State.gate t 5).devCount = 3 ∧ (State.gate t 5).deviating = true ∧ (State.gate t 5).admitted = 3000 ∧
    t.adu.tally = 12976 ∧ t.ncu.queue = [.deviation 5] := by decide +kernel

/-- 02 Table 2-7, step 9: GATE_IN. -/
theorem test_gateIn_returns_to_acquire :
    let t := after (exec (.gateIn (cr 5)) (inSlot (gate5
      { state := .blocked, causeOut := true, admitted := 3000, measured := some 7000, flow := 976 } 12976) 0))
    (State.gate t 5).state = .acquire ∧ (State.gate t 5).admitted = 0 ∧ (State.gate t 5).flow = 0 ∧
    t.adu.tally = 12000 ∧ (State.gate t 5).measured = some 7000 ∧ t.ncu.queue = [.gateState 5 .acquire] := by
  decide +kernel

/-- Gate 12 of 04 Table 4-3, in slot 1 of a cycle of two slots. -/
def gate12 (cycle : BitVec 32) (r : Gate) (lower : Nat) : Machine.State :=
  let s := State.setGate demo 12 r
  { s with
    rpu := { s.rpu with cycleNumber := some cycle, slotPos := 1, active := some ⟨2, [0x0300, 0x010C]⟩ }
    scu := { s.scu with lower := lower }
    tst := { table := WordStore.ofList ((table.filter (fun p => p.1 < 0x140)) ++
      [(0x140, 3), (0x141, 0xFFFF), (0x143, 8000), (0x144, 100), (0x145, 3), (0x146, 5), (0x147, 1), (0x148, 1500)] ++
      table.filter (fun p => 0x150 ≤ p.1)) } }

/-- 04 Table 4-4, cycle 30005: the hold limit, STALE, LOSS and the first pursuit. -/
theorem test_silence_reaches_the_hold_limit :
    let t := after (exec (.commandSlotFrame blankIdle) (gate12 30005
      { state := .service, admitted := 4000, flow := 3000, lastCycle := 30000, lastDir := .down, holdCount := 4,
        lastTag := 17 } 0))
    (State.gate t 12).holdCount = 5 ∧ (State.gate t 12).state = .stale ∧ (State.gate t 12).owner = .loss ∧
    (State.gate t 12).admitted = 3500 ∧ State.counter t .holdFills = 0 ∧ State.counter t .clampRate = 1 ∧
    t.ncu.queue = [.gateState 12 .stale, .clamp 12 ⟨.rate, none, 1500, 3500⟩] ∧
    t.rpu.ringOut = some (goodFrame kindSetpoint ⟨2, 12, 3500, 1500, 17⟩) := by decide +kernel

/-- 04 Table 4-4, cycle 30011: dispatch returns. -/
theorem test_dispatch_returns :
    let t := after (exec (.commandSlotFrame (sp 12 2500 18 0)) (gate12 30011
      { state := .stale, admitted := 3000, flow := 2200, lastCycle := 30010, lastDir := .down, holdCount := 10,
        owner := .loss, lastTag := 17 } 0))
    (State.gate t 12).holdCount = 0 ∧ (State.gate t 12).state = .service ∧ (State.gate t 12).owner = .dispatch ∧
    (State.gate t 12).admitted = 2900 ∧
    t.rpu.ringOut = some (goodFrame kindSetpoint ⟨2, 12, 2900, 2500, 18⟩) := by decide +kernel

/-- The bounds of 05 section 5.9 for a block, mode, curtailment, base and expected inflow. -/
def boundsOf (n : Nat) (m : Mode) (curtail left base : Nat) (inflow : Option Inflow) : Nat × Term × Nat × Term :=
  let c := Scu.withBounds { limits := blockLimits table n, mode := m, curtailCeiling := curtail, curtailLeft := left }
    table base inflow
  (c.upper, c.upperTerm, c.lower, c.lowerTerm)

/-- 05 Table 5-5, steps 1, 5, 6, 8, 10 and 13. -/
theorem test_bounds_table_5_5 :
    boundsOf 4 .normal 0 0 10000 none = (11500, .rampUp, 9000, .rampDown) ∧
    boundsOf 4 .normal 12000 2 11500 none = (12000, .curtail, 10500, .rampDown) ∧
    boundsOf 5 .normal 12000 1 12600 none = (11000, .ceiling, 12000, .rampDown) ∧
    boundsOf 5 .flood 12000 1 12600 none = (15600, .floodRamp, 12000, .rampDown) ∧
    boundsOf 5 .flood 12000 0 14800 (some ⟨17000, false, 1⟩) = (17800, .floodRamp, 15500, .inflow) ∧
    boundsOf 5 .normal 12000 0 16000 (some ⟨17000, false, 1⟩) = (11000, .ceiling, 15400, .rampDown) := by
  decide +kernel

/-- 05 Table 5-5, steps 3, 6 and 13: the cursor. -/
theorem test_cursor_table_5_5 :
    stepCursor table (.block 4 2) = (.block 4 1, none) ∧
    stepCursor table (.block 4 1) = (.block 5 3, some (.schedule 5 false)) ∧
    stepCursor table (.block 5 1) = (.holdingLast, some (.schedule 5 true)) := by decide +kernel

/-- 06 Table 6-6, steps 1 and 3: a report replaces the entry of its due interval, or is inserted. -/
theorem test_release_is_filed :
    let s := { demo with
      scu := { demo.scu with intervalNumber := 700 },
      clu := { demo.clu with
        arrivals := [⟨699, 701, 10200, false, 3399⟩, ⟨700, 702, 10600, false, 3400⟩],
        inflow := some ⟨9800, false, 3398⟩ } }
    let t := after (exec (.release (lf 3 11800 3401)) s)
    t.clu.arrivals = [⟨699, 701, 10200, false, 3399⟩, ⟨700, 702, 11800, false, 3401⟩] ∧
    t.clu.inflow = some ⟨9800, false, 3398⟩ ∧ t.clu.up.replies = [⟨msgRelease, 7⟩] ∧
    (after (exec (.release (lf 3 14500 3402)) { t with scu := { t.scu with intervalNumber := 701 } })).clu.arrivals =
      t.clu.arrivals ++ [⟨701, 703, 14500, false, 3402⟩] := by decide +kernel

/-- 06 Table 6-6, step 2: the boundary to 701 matures the head. -/
theorem test_maturity_takes_the_head :
    let t := after (exec .arrivalMaturity { demo with
      clu := { demo.clu with arrivals := [⟨699, 701, 10200, false, 3399⟩, ⟨700, 702, 11800, false, 3401⟩] },
      handed := { maturities := [701] } })
    t.clu.arrivals = [⟨700, 702, 11800, false, 3401⟩] ∧ t.clu.inflow = some ⟨10200, false, 3399⟩ := by decide +kernel

/-- The up port of 06 Table 6-7 at 8 ms, the register's message sent. -/
def upPort : LinkPort :=
  { state := .up, register := some ⟨⟨.curtail, 14000, 4⟩, 12, .left⟩, deferred := some ⟨.curtail, 11000, 6⟩,
    tagCount := 13, takenCount := 299 }

/-- 06 Table 6-7 at 300 ms: the TAKEN timeout, the tick's increase bringing the count to its limit. -/
theorem test_takenTimeout_sends_the_deferred :
    let t := after (exec (.takenTimeout .up) { demo with clu := { demo.clu with up := upPort } })
    t.clu.up.register = some ⟨⟨.curtail, 11000, 6⟩, 13, .waiting⟩ ∧ t.clu.up.deferred = none ∧
    t.clu.up.tagCount = 14 ∧ State.counter t .linkTimeouts = 0 + 1 := by decide +kernel

/-- 06 Table 6-7 at 310 ms and 330 ms, with the limit of the tests: a late TAKEN, then the one that matches. -/
theorem test_taken_matches_its_tag :
    let s := { demo with clu := { demo.clu with
      up := { upPort with register := some ⟨⟨.curtail, 11000, 6⟩, 13, .left⟩, deferred := none } } }
    (after (exec (.taken .up ⟨3, 12, 2, 0, 0, 0⟩) s)).clu.up.register = some ⟨⟨.curtail, 11000, 6⟩, 13, .left⟩ ∧
    (after (exec (.taken .up ⟨3, 13, 2, 0, 0, 0⟩) s)).clu.up.register = none := by decide +kernel

/-- 08 Table 8-4, cycles 1010 and 1076: heartbeats out of sequence, PRESENT and in a run. -/
theorem test_heartbeat_out_of_sequence :
    let t := after (exec (.heartbeat (ff 0 9 0)) (inSlot { demo with
      spu := { demo.spu with lastSeq := some 7, window := 10 } } 3))
    let u := after (exec (.heartbeat (ff 0 5 0)) (inSlot { demo with
      spu := { demo.spu with sup := .lost, lastSeq := some 3, run := true } } 3))
    t.spu.lastSeq = some 9 ∧ t.spu.window = 10 ∧ t.spu.sup = .present ∧ State.counter t .heartbeatErrors = 1 ∧
    u.spu.lastSeq = some 5 ∧ u.spu.sup = .lost ∧ u.spu.run = true := by decide +kernel

/-- The open buffer of 09 Table 9-9 after step 4, with the given fourth opening. -/
def curve3 (o : Word) : EditBuffer :=
  ⟨29, [(0x260, 5), (0x263, 2000), (0x264, 1500), (0x265, 5000), (0x266, 4200), (0x267, o), (0x268, 6100),
        (0x269, 10000), (0x26A, 7600)]⟩

/-- 09 Table 9-9, step 5: the mistyped opening. -/
theorem test_check_names_the_word :
    let t := after (exec (.check (rq 0 0)) { demo with mgu := { demo.mgu with buffer := some (curve3 4500) } })
    t.rpu.ringOut = some (goodFrame kindMgmtReply ⟨0, 5, 0x267, 2, 7⟩) ∧
    t.mgu.buffer = some (curve3 4500) ∧ t.tst.table = table := by decide +kernel

/-- 09 Table 9-9, step 7, and what follows it: Flow at 6000 ts under the new curve. -/
theorem test_check_installs_the_curve :
    let t := after (exec (.check (rq 0 0)) { demo with mgu := { demo.mgu with buffer := some (curve3 7500) } })
    t.rpu.ringOut = some (goodFrame kindMgmtReply ⟨0, 0, 0x260, 29, 7⟩) ∧ t.mgu.buffer = none ∧
    flowAt table 8 35500 6000 = 5294 ∧ flowAt t.tst.table 8 35500 6000 = 5381 := by decide +kernel

/-- 01 Table 1-5, position 5, and Table 1-6: the NOTICE slot, and a short cycle. -/
theorem test_notice_slot_and_short_cycle :
    (after (exec (.noticeSlot (ff 0 0 0)) (inSlot { demo with
      ncu := { queue := [.clamp 3 ⟨.rate, none, 4200, 4000⟩, .gateState 5 .service] } } 4))).ncu.queue =
        [.gateState 5 .service] ∧
    (let t := after (exec (.cycleMarker ⟨0, 0, 4713, 0⟩ false) (inSlot demo 1))
     State.counter t .shortCycles = 1 ∧ (State.gate t 8).holdCount = 1 ∧ t.rpu.cycleNumber = some 4713 ∧
      t.rpu.slotPos = 0) := by decide +kernel

/-- R166: the load of a part whose image is bad installs the blank image and queues IMAGE; R127, R130: TRIP0 takes
the engine of the tests to its state 1. -/
theorem test_blank_load_and_engine_entry :
    (let t := after (exec .startUpLoadComplete Machine.State.reset)
     t.rpu.state = .sync ∧ t.tst.table = blankWords ∧ t.ncu.queue = [.image] ∧ t.mgu.lock = .open) ∧
    (let t := after (exec .engineEvaluation { demo with
      spu := { demo.spu with inputs := demo.spu.inputs.set 2 ⟨true, true, 0⟩ }, handed := { evaluation := true } })
     t.sqe.current = 1 ∧ t.sqe.seqA = true ∧ t.ncu.queue = [.engine 0 1 (.transition 0)] ∧
      t.handed.actions = [[(8, .set 6000)]] ∧ t.handed.curtails = [(12000, 6)]) := by decide +kernel

/-- R16: with a limit of 50 ms, the tick that brings the gap count to 50 loses the ring; RING_LOSS takes that part of the
tick ahead, and the tick that follows does not take it again. -/
theorem test_ring_loss_at_its_tick :
    let s := { demo with rpu := { demo.rpu with gap := 49 } }
    let early := after (exec .ringLoss { s with rpu := { s.rpu with gap := 48 } })
    let t := after (exec .ringLoss s)
    (State.tick s).rpu.state = .ringLost ∧ early.rpu.state = .run ∧ early.rpu.gap = 48 ∧
    t.rpu.state = .ringLost ∧ t.rpu.gap = 50 ∧ (State.tick t).rpu.gap = 50 ∧
    (State.tick (State.tick t)).rpu.gap = 51 := by decide +kernel

/-- R147: with three samples at the other level behind it, TRIP0 is taken at the next tick's sample; PANEL_INPUT_CHANGE
takes that sample ahead, and the tick that follows does not sample again, so that the pin's next level begins to count
at the tick after. With two behind it the filtered level stands, however often the command comes in one tick; without
its sample the command gives the pin its level and no more. -/
theorem test_panel_input_sampled_once_a_tick :
    let line := fun (n : Nat) (pin : Bool) =>
      ({ demo with spu := { demo.spu with inputs := demo.spu.inputs.set 2 ⟨pin, false, n⟩ } } : Machine.State)
    let drive := fun (level sampled : Bool) (s : Machine.State) => after (exec (.panelInputChange (.trip 0) level sampled) s)
    let t := drive true true (line 3 false)
    let back := drive false true t
    State.panel (State.tick (line 3 true)) (.trip 0) = ⟨true, true, 0⟩ ∧
    State.panel (State.tick (line 2 true)) (.trip 0) = ⟨true, false, 3⟩ ∧
    State.panel (State.tick (line 3 false)) (.trip 0) = ⟨false, false, 0⟩ ∧
    State.panel t (.trip 0) = ⟨true, true, 0⟩ ∧ (State.gate t 0).owner = .trip ∧
    State.panel (State.tick back) (.trip 0) = ⟨false, true, 0⟩ ∧
    State.panel (State.tick (State.tick back)) (.trip 0) = ⟨false, true, 1⟩ ∧
    State.panel (State.tick (drive true true (drive true true (line 2 false)))) (.trip 0) = ⟨true, false, 3⟩ ∧
    State.panel (drive true false (line 3 false)) (.trip 0) = ⟨true, false, 3⟩ := by
  decide +kernel

/-- R148: at the first reading FLOOD_ALARM takes its most recent sample: a level that no tick has sampled is not read. -/
theorem test_first_reading_takes_the_last_sample :
    let load := fun (r : PanelLine) => after (exec .startUpLoadComplete
      { Machine.State.reset with spu := { Machine.State.reset.spu with inputs := Vector.replicate 8 r } })
    (load ⟨true, false, 1⟩).scu.mode = .flood ∧ State.panel (load ⟨true, false, 1⟩) .floodAlarm = ⟨true, true, 0⟩ ∧
    (load ⟨true, false, 0⟩).scu.mode = .normal ∧ (load ⟨false, true, 0⟩).scu.mode = .flood := by decide +kernel

/-- R138: an evaluation commanded after an ENGINE install runs from the new initial state, with a dwell count of 0; the
transition of the tests asks for TRIP0, and minimum dwells are 0. -/
theorem test_evaluation_after_an_install :
    let s := { demo with
      sqe := { current := 1, dwell := 9 }, handed := { evaluation := true },
      spu := { demo.spu with inputs := demo.spu.inputs.set 2 ⟨true, true, 0⟩ },
      mgu := { demo.mgu with buffer := some ⟨75, copyGroup 75 table⟩ } }
    let t := after (exec (.check (rq 0 0)) s)
    t.sqe.current = 0 ∧ t.sqe.dwell = 0 ∧ t.sqe.lastLeft = 1 ∧ t.handed.evaluation = true ∧
    (after (exec .engineEvaluation t)).sqe.current = 1 ∧
    (after (exec .engineEvaluation t)).sqe.lastCause = .transition 0 := by decide +kernel

/-- R142, R145: a STATION install that shortens the window acts at the next marker, not at the comparison still owed. -/
theorem test_window_after_an_install :
    let s := { demo with
      spu := { demo.spu with window := 20 }, handed := { window := true },
      tst := { table := WordStore.write table 0x0D0 0 },
      mgu := { demo.mgu with buffer := some ⟨0, WordStore.write (copyGroup 0 table) 0x003 10⟩ } }
    let t := after (exec (.check (rq 0 0)) s)
    WordStore.nat t.tst.table 0x003 = 10 ∧ t.spu.sup = .present ∧ t.handed.window = false ∧
    (after (exec .supervisionWindowExpiry t)).spu.sup = .present := by decide +kernel

/-- R157: of two faults the earlier word is named: an ENGINE transition before a state's word, and in SLOTS a repeated
role before a binding used twice at a later entry. -/
theorem test_check_names_the_earlier_word :
    validate 75 (WordStore.write (WordStore.write (copyGroup 75 table) 0x58B 300) 0x544 0x5A00) table =
      some (0x544, .fieldRange) ∧
    validate 1 (WordStore.write (WordStore.write (copyGroup 1 table) 0x042 0x0300) 0x045 0x0108) table =
      some (0x042, .roleDuplicate) := by decide +kernel

/-! ### Witnesses: for each statement with hypotheses, states and operands that meet them -/

/-- The roles of the slots. -/
theorem role_of_slots :
    SlotTable.role slots 0 = .management ∧ SlotTable.role slots 1 = .command ∧ SlotTable.role slots 2 = .telemetry ∧
    SlotTable.role slots 3 = .heartbeat ∧ SlotTable.role slots 4 = .notice ∧ SlotTable.role slots 5 = .unused ∧
    SlotTable.role slots 6 = .command ∧ slots.count = 7 := by decide +kernel

/-- A state whose ring port stands at slot `p` of the cycle of the tests. -/
theorem at_slot (s : Machine.State) (p : Nat) (role : Role) (h : s.rpu = { demo.rpu with slotPos := p })
    (ha : s.handed.ages = false) (hp : p < 7) (hr : SlotTable.role slots p = role) : AtSlot s slots role := by
  refine ⟨by rw [h]; rfl, by rw [h]; rfl, ?_, by rw [h]; exact hr, ha⟩
  rw [h, role_of_slots.2.2.2.2.2.2.2]
  exact hp

/-- Slot 0. -/
theorem at_management (s : Machine.State) (h : s.rpu = { demo.rpu with slotPos := 0 }) (ha : s.handed.ages = false) :
    AtManagement s := ⟨slots, at_slot s 0 _ h ha (by omega) role_of_slots.1⟩

/-- Slot 1. -/
theorem at_gate8 (s : Machine.State) (h : s.rpu = { demo.rpu with slotPos := 1 }) (ha : s.handed.ages = false) :
    AtCommand s 8 :=
  ⟨slots, at_slot s 1 _ h ha (by omega) role_of_slots.2.1, by rw [h]; decide +kernel⟩

/-- Slot 2. -/
theorem at_telemetry (s : Machine.State) (h : s.rpu = { demo.rpu with slotPos := 2 }) (ha : s.handed.ages = false) :
    AtTelemetry s 0xFF :=
  ⟨slots, at_slot s 2 _ h ha (by omega) role_of_slots.2.2.1, by rw [h]; decide +kernel⟩

/-- Slot 6. -/
theorem at_gate0 (s : Machine.State) (h : s.rpu = { demo.rpu with slotPos := 6 }) (ha : s.handed.ages = false) :
    AtCommand s 0 :=
  ⟨slots, at_slot s 6 _ h ha (by omega) role_of_slots.2.2.2.2.2.2.1, by rw [h]; decide +kernel⟩

/-- An IDLE frame is no command. -/
theorem idle_is_silent (s : Machine.State) (g : GateIx) : Silent s g blankIdle :=
  fun h => absurd h.2.2.1 (by decide +kernel)

theorem idle_is_no_marker : Frame.isMarker blankIdle = false := by decide +kernel

/-- The state of the tests is sound. -/
theorem demo_is_sound : Sound demo where
  notices := by unfold NoticesOk; decide +kernel
  counters := by unfold CountersOk; decide +kernel
  bank := by unfold CountersOk; decide +kernel
  arrivals := by unfold ArrivalsOk; decide +kernel
  tally := by unfold TallyOk; decide +kernel
  bounds := by unfold BoundsOk; decide +kernel
  ownership := by unfold OwnershipOk; decide +kernel
  stores := ⟨by decide +kernel, by decide +kernel, fun _ h => nomatch h⟩
  cycle := by unfold CycleOk; decide +kernel
  lock := by unfold LockOk; decide +kernel
  gates := by unfold GatesOk GateOk; decide +kernel
  ports := by unfold PortsOk PortOk; decide +kernel
  supervision := by unfold SupervisionOk; decide +kernel
  mode := by unfold ModeOk; decide +kernel

/-- It is sound in every slot, whatever is handed on and whatever waits. -/
theorem demo_is_sound_in (p : Nat) (h : Handed) (l : List Instr) :
    Sound { inSlot demo p with handed := h, pending := l } where
  notices := demo_is_sound.notices
  counters := demo_is_sound.counters
  bank := demo_is_sound.bank
  arrivals := demo_is_sound.arrivals
  tally := demo_is_sound.tally
  bounds := demo_is_sound.bounds
  ownership := demo_is_sound.ownership
  stores := demo_is_sound.stores
  cycle := demo_is_sound.cycle
  lock := demo_is_sound.lock
  gates := demo_is_sound.gates
  ports := demo_is_sound.ports
  supervision := demo_is_sound.supervision
  mode := demo_is_sound.mode

/-- LOAD; RUN with the gap count at its largest, one below the limit of 50 and two below it, and already raised. -/
theorem witness_IdleStepIsOneTick :
    Machine.State.reset.pending = [] ∧ Machine.State.reset.rpu.state = .load ∧
    (∀ n, let s := { demo with rpu := { demo.rpu with gap := n } }
      s.pending = [] ∧ s.rpu.state = .run ∧ TickPart.gap ∉ s.handed.ticked) ∧
    ringLossLimit demo.tst.table ≤ min 65535 (65535 + 1) ∧ ringLossLimit demo.tst.table ≤ min 65535 (49 + 1) ∧
    min 65535 (48 + 1) < ringLossLimit demo.tst.table ∧
    TickPart.gap ∈ ({ demo with handed := { ticked := [.gap] } } : Machine.State).handed.ticked ∧
    demo.handed = { ticked := [] } :=
  ⟨rfl, rfl, fun _ => ⟨rfl, rfl, nofun⟩, by decide +kernel⟩

theorem witness_StepKeepsNoticesAndCounters :
    ∃ s t, Sound s ∧ step s = .next t ∧ s.pending = [.commandSlotFrame (sp 8 6000 31 0)] :=
  ⟨_, _, demo_is_sound_in 1 {} _, rfl, rfl⟩

theorem witness_StepKeepsArrivalQueue :
    ∃ s t, Sound s ∧ step s = .next t ∧ s.pending = [.release (lf 3 11800 3401)] :=
  ⟨_, _, demo_is_sound_in 0 {} _, rfl, rfl⟩

theorem witness_StepKeepsTally :
    ∃ s t, Sound s ∧ step s = .next t ∧ s.pending = [.position (ff 5 3000 0)] :=
  ⟨_, _, demo_is_sound_in 2 {} _, rfl, rfl⟩

theorem witness_StepKeepsBoundsCurrent :
    ∃ s t, Sound s ∧ step s = .next t ∧ s.pending = [.curtail (lf 5 12000 2)] :=
  ⟨_, _, demo_is_sound_in 0 {} _, rfl, rfl⟩

theorem witness_StepKeepsOwnershipSet :
    ∃ s t, Sound s ∧ step s = .next t ∧ s.pending = [.actionListApply] ∧ s.handed.actions = [[(8, .set 6000)]] :=
  ⟨_, _, demo_is_sound_in 0 { actions := [[(8, .set 6000)]] } _, rfl, rfl, rfl⟩

theorem witness_StepKeepsStores :
    ∃ s t, Sound s ∧ step s = .next t ∧ s.pending = [.openEdit (rq 0 29)] :=
  ⟨_, _, demo_is_sound_in 0 {} _, rfl, rfl⟩

theorem witness_StepKeepsGateRecords :
    ∃ s t, Sound s ∧ step s = .next t ∧ s.pending = [.gateOut (cr 8)] :=
  ⟨_, _, demo_is_sound_in 0 {} _, rfl, rfl⟩

theorem witness_StepKeepsPortsModesAndLock :
    ∃ s t, Sound s ∧ step s = .next t ∧ s.pending = [.heartbeat (ff 0 7 0)] :=
  ⟨_, _, demo_is_sound_in 3 {} _, rfl, rfl⟩

/-- Each clause on the operation in flight, and a bad image. -/
theorem witness_ResetTakesEveryBlock :
    demo.mgu.op = none ∧ (∀ op : Operation, ({ demo with mgu := { demo.mgu with op := some op } }).mgu.op = some op) ∧
    demo.tst.image.good = false := ⟨rfl, fun _ => rfl, rfl⟩

/-- The part just after power-on with a bad image, and with a good one that holds OPEN or FULL. -/
theorem witness_LoadCompleteStartsBlocks :
    (let s := Machine.State.reset
     s.rpu.state = .load ∧ s.tst.resetAsserted = false ∧ s.ncu.queue = [] ∧ s.tst.image.good = false) ∧
    (∀ l c, let s := { Machine.State.reset with tst := { image := ⟨storedWords table, l, c, true⟩ } }
     s.rpu.state = .load ∧ s.tst.resetAsserted = false ∧ s.ncu.queue = [] ∧ s.tst.image.good = true) :=
  ⟨by decide, fun _ _ => ⟨rfl, rfl, rfl, rfl⟩⟩

/-- An operation in flight, with an image of the given quality. -/
def inFlight (op : Operation) (good : Bool) : Machine.State :=
  { demo with mgu := { demo.mgu with op := some op }, tst := { demo.tst with image := ⟨table, .limits, false, good⟩ } }

theorem witness_StoreAndCommissionComplete :
    (inFlight .store false).mgu.op = some .store ∧
    (inFlight .commissionLock true).mgu.op = some .commissionLock ∧
    (inFlight .commissionLock true).tst.image.good = true ∧
    (inFlight .commissionLock false).mgu.op = some .commissionLock ∧
    (inFlight .commissionLock false).tst.image.good = false := by decide

theorem witness_ReloadCompletes :
    (inFlight .reload true).mgu.op = some .reload ∧ (inFlight .reload true).tst.image.good = true ∧
    WordStore.wf (inFlight .reload true).tst.table = true ∧ WordStore.wf (inFlight .reload true).tst.image.words = true ∧
    (inFlight .reload false).mgu.op = some .reload ∧ (inFlight .reload false).tst.image.good = false ∧
    TallyOk (inFlight .reload true).adu := by
  refine ⟨?_, ?_, ?_, ?_, ?_, ?_, demo_is_sound.tally⟩ <;> decide +kernel

/-- The cycle's last slot taken; SYNC with no cycle open; a ring loss. -/
theorem witness_MarkerOpensCycle :
    ((inSlot demo 7).rpu.state ≠ .load ∧ ∀ x, (inSlot demo 7).rpu.active = some x → x.count ≤ 7) ∧
    (∀ st : RpuState, let s := { demo with rpu := { demo.rpu with state := st, active := none } }
      st ≠ .load → s.rpu.state ≠ .load ∧ ∀ x, s.rpu.active = some x → x.count ≤ s.rpu.slotPos) := by
  refine ⟨⟨by decide, fun x h => ?_⟩, fun st h => ⟨h, fun x hx => nomatch hx⟩⟩
  rw [← Option.some.inj (h : some slots = some x)]
  exact Nat.le_of_eq role_of_slots.2.2.2.2.2.2.2

/-- Before the first COMMAND slot, and before the last: gate 8 in SERVICE is among the unreached, gate 5 is not. -/
theorem witness_ShortCycleCountsHolds :
    (inSlot demo 1).rpu.state = .run ∧ (inSlot demo 1).rpu.active = some slots ∧ 1 < slots.count ∧
    (8 : GateIx) ∈ SlotTable.unreached slots 1 ∧
    ((List.range' 1 (slots.count - 1)).filter (fun e => decide (SlotTable.role slots e = .command) &&
      decide (boundGate (SlotTable.entry slots e) = some 8))).length = 1 ∧
    6 < slots.count ∧ SlotTable.unreached slots 6 = [0] ∧ (5 : GateIx) ∉ SlotTable.unreached slots 0 := by
  decide +kernel

/-- RUN and SYNC with the gap count one below the limit of 50; two below it; and already raised in this tick. -/
theorem witness_RingLossAbandonsCycle :
    (let s := { demo with rpu := { demo.rpu with gap := 49 } }
     s.rpu.state = .run ∧ TickPart.gap ∉ s.handed.ticked ∧ ringLossLimit s.tst.table ≤ min 65535 (s.rpu.gap + 1)) ∧
    (let s := { demo with rpu := { demo.rpu with state := .sync, active := none, gap := 49 } }
     s.rpu.state = .sync ∧ ringLossLimit s.tst.table ≤ min 65535 (s.rpu.gap + 1)) ∧
    min 65535 (48 + 1) < ringLossLimit demo.tst.table ∧ TickPart.gap ∈ ({ ticked := [.gap] } : Handed).ticked := by
  decide +kernel

/-- A boundary due, with the given cursor, mode, declaration and exit dwell count. -/
def atBoundary (c : Cursor) (m : Mode) (declared : Bool) (n : Nat) : Machine.State :=
  { demo with
    scu := { demo.scu with cursor := c, mode := m, declared := declared, exitDwell := n }
    handed := { boundary := true } }

/-- One state for each clause; the exit dwell limit of the tests is 2. -/
theorem witness_BoundaryAdvancesInterval :
    (∀ c m d n, (atBoundary c m d n).handed.boundary = true ∧ (atBoundary c m d n).scu.cursor = c ∧
      (atBoundary c m d n).scu.mode = m) ∧
    blockNext table 4 = some 5 ∧ blockNext table 5 = none ∧
    State.exitHolds (atBoundary .none .flood true 0) = false ∧
    State.exitHolds (atBoundary .none .flood false 0) = true ∧ min 255 (0 + 1) < exitDwellLimit table ∧
    exitDwellLimit table ≤ min 255 (1 + 1) ∧ State.exitHolds (atBoundary .none .flood false 1) = true :=
  ⟨fun _ _ _ _ => ⟨rfl, rfl, rfl⟩, by decide +kernel⟩

/-- With the down port present, and with it absent. -/
theorem witness_ReRatingSetsBase :
    (let s := { demo with handed := { reRatings := [5] } }
     s.handed.reRatings = 5 :: [] ∧ (State.port s .down).state ≠ .absent) ∧
    (let s := { demo with clu := {}, handed := { reRatings := [5] } }
     s.handed.reRatings = 5 :: [] ∧ (State.port s .down).state = .absent) := by decide

/-- An entry due at the interval, and an entry due one later. -/
theorem witness_MaturityAdoptsLastEntry :
    (∀ due : BitVec 32, ({ demo with
      clu := { demo.clu with arrivals := [⟨0, due, 9, false, 0⟩] },
      handed := { maturities := [702] } } : Machine.State).handed.maturities = 702 :: []) ∧
    [(⟨0, 702, 9, false, 0⟩ : Arrival)].takeWhile (fun e => dueBy e.due 702) ≠ [] ∧
    [(⟨0, 703, 9, false, 0⟩ : Arrival)].takeWhile (fun e => dueBy e.due 702) = [] := ⟨fun _ => rfl, by decide⟩

/-- The window of the tests is 100: at it in PRESENT and in a run, and one below it. -/
theorem witness_SupervisionWindowExpires :
    (let s := { demo with spu := { demo.spu with window := 100 }, handed := { window := true } }
     s.handed.window = true ∧ s.spu.sup = .present ∧ supervisionWindow s.tst.table ≤ s.spu.window) ∧
    (let s := { demo with spu := { demo.spu with sup := .absent, run := true, window := 100 },
                          handed := { window := true } }
     s.handed.window = true ∧ s.spu.sup ≠ .present ∧ s.spu.run = true ∧
       supervisionWindow s.tst.table ≤ s.spu.window) ∧
    (let s := { demo with spu := { demo.spu with window := 99 }, handed := { window := true } }
     s.handed.window = true ∧ s.spu.window < supervisionWindow s.tst.table) := by decide +kernel

/-- TRIP0 active. -/
def tripped0 (s : Machine.State) : Machine.State :=
  { s with spu := { s.spu with inputs := s.spu.inputs.set 2 ⟨true, true, 0⟩ } }

/-- An evaluation due: no transition true; held; the dwell one short; transition 0 the first that is true. -/
theorem witness_EvaluationTakesFirstTransition :
    (let s := { demo with handed := { evaluation := true } }
     s.handed.evaluation = true ∧ ∀ k, k < min 24 (transitionCount s.tst.table) →
       (transitionAt s.tst.table k).src = s.sqe.current → State.holds s (transitionAt s.tst.table k) = false) ∧
    (let s := { demo with sqe := { demo.sqe with held := true }, handed := { evaluation := true } }
     s.handed.evaluation = true ∧ s.sqe.held = true ∧ s.sqe.stepPending = false) ∧
    (let s := { demo with sqe := { demo.sqe with current := 1, dwell := 2 }, handed := { evaluation := true } }
     s.handed.evaluation = true ∧ s.sqe.dwell < minDwell s.tst.table s.sqe.current) ∧
    (let s := tripped0 { demo with
       sqe := { demo.sqe with held := true, stepPending := true }, handed := { evaluation := true } }
     s.handed.evaluation = true ∧ s.sqe.stepPending = true ∧ minDwell s.tst.table s.sqe.current ≤ s.sqe.dwell ∧
       0 < min 24 (transitionCount s.tst.table) ∧ (transitionAt s.tst.table 0).src = s.sqe.current ∧
       State.holds s (transitionAt s.tst.table 0) = true) := by decide +kernel

/-- A list that names gate 8, which DISPATCH or TRIP owns, and not gate 0, which the engine owned. -/
theorem witness_ActionListSetsOwners :
    (∀ o : Owner, let s := State.setGate (State.setGate { demo with handed := { actions := [[(8, .set 6000)]] } } 8
        { gate8 with owner := o }) 0 { gate0 with owner := .engine, target := some .closeUrgent }
      s.handed.actions = [(8, .set 6000)] :: [] ∧ (State.gate s 8).owner = o ∧ (State.gate s 0).owner = .engine) ∧
    ActionList.find [(8, .set 6000)] 8 = some (.set 6000) ∧ ActionList.find [(8, .set 6000)] 0 = none :=
  ⟨fun o => by cases o <;> decide +kernel, by decide, by decide⟩

theorem witness_CurtailIsProduced :
    ({ demo with handed := { curtails := [(16777216, 256)] } }).handed.curtails = (16777216, 256) :: [] ∧
    AtManagement demo ∧ demo.mgu.lock ≠ .full := ⟨rfl, at_management _ rfl rfl, by decide⟩

/-- A SETPOINT leaves for the frame of gate 8's slot. -/
theorem witness_OnlyCommandSlotsSendSetpoints :
    ∃ t o, exec (.commandSlotFrame blankIdle) (inSlot demo 1) = .next t ∧ t.rpu.ringOut = some o ∧
      o.kind = kindSetpoint ∧ (inSlot demo 1).rpu.ringOut ≠ some o :=
  ⟨after (exec (.commandSlotFrame blankIdle) (inSlot demo 1)), setpoint 8 2000 2000 0 4, rfl, by decide +kernel⟩

/-- Gate 8 with another record, its COMMAND slot next. -/
def slot8 (r : Gate) : Machine.State := inSlot (State.setGate demo 8 r) 1

/-- A command for gate 8 that is usable while supervision is PRESENT. -/
theorem usable_sp (s : Machine.State) (a : Nat) (tag : Byte) (flags : BitVec 4) (h : s.spu.sup = .present) :
    Usable s 8 (sp 8 a tag flags) := by
  refine ⟨h, ?_, rfl, rfl⟩
  simp [sp, goodFrame, Frame.sealed, Frame.good, Frame.body]

theorem setpoint_is_no_marker (g a : Nat) (tag : Byte) (flags : BitVec 4) :
    Frame.isMarker (sp g a tag flags) = false := by
  simp [Frame.isMarker, sp, goodFrame, Frame.sealed, kindSetpoint, kindCycle]

/-- Gate 8 in ACQUIRE, BLOCKED and LOCAL, with a usable command and with none. -/
theorem witness_GateNotInServiceIsNotMoved :
    (∀ r, AtCommand (slot8 r) 8 ∧ Usable (slot8 r) 8 (sp 8 1000 3 0) ∧ Silent (slot8 r) 8 blankIdle) ∧
    Frame.isMarker (sp 8 1000 3 0) = false ∧ Frame.isMarker blankIdle = false ∧
    (let s := slot8 { state := .acquire }; GateState.counted (State.gate s 8).state = false) ∧
    (let s := slot8 { gate8 with state := .blocked, causeOut := true }
     (State.gate s 8).state = .blocked ∧ State.tripped s 8 = false ∧ (State.gate s 8).owner = .dispatch) ∧
    (let s := slot8 { gate8 with state := .localControl }
     (State.gate s 8).state = .localControl ∧ State.tripped s 8 = false ∧ (State.gate s 8).owner = .dispatch) :=
  ⟨fun _ => ⟨at_gate8 _ rfl rfl, usable_sp _ _ _ _ rfl, idle_is_silent _ _⟩, setpoint_is_no_marker _ _ _ _,
   idle_is_no_marker, by decide +kernel, by decide +kernel, by decide +kernel⟩

/-- Gate 0, a WICKET, with its trip line active, with a usable command and with none; and owned by TRIP when the line
is inactive. -/
theorem witness_TripClosesGate :
    (let s := tripped0 (inSlot demo 6)
     AtCommand s 0 ∧ GateState.counted (State.gate s 0).state = true ∧ State.tripped s 0 = true ∧
     Usable s 0 (sp 0 4000 3 0) ∧ Silent s 0 blankIdle) ∧
    (let s := State.setGate (inSlot demo 6) 0 { gate0 with owner := .trip }
     AtCommand s 0 ∧ GateState.counted (State.gate s 0).state = true ∧ State.tripped s 0 = false ∧
     (State.gate s 0).owner = .trip) ∧
    Frame.isMarker (sp 0 4000 3 0) = false ∧ Frame.isMarker blankIdle = false :=
  ⟨⟨at_gate0 _ rfl rfl, by decide +kernel, by decide +kernel, ⟨rfl, by decide +kernel, rfl, rfl⟩,
    idle_is_silent _ _⟩, ⟨at_gate0 _ rfl rfl, by decide +kernel⟩, setpoint_is_no_marker _ _ _ _, idle_is_no_marker⟩

/-- Gate 8 under DISPATCH; and under the engine, with an urgent command at the opening it stands at. -/
theorem witness_DispatchCommandIsAdmitted :
    (AtCommand (slot8 gate8) 8 ∧ Usable (slot8 gate8) 8 (sp 8 65535 3 0) ∧
      (State.gate (slot8 gate8) 8).state = .service ∧ State.tripped (slot8 gate8) 8 = false ∧
      (State.gate (slot8 gate8) 8).owner = .dispatch) ∧
    (let s := slot8 { gate8 with owner := .engine, target := some (.set 6000) }
     let f := sp 8 2000 3 1
     AtCommand s 8 ∧ Usable s 8 f ∧ (State.gate s 8).state = .service ∧ State.tripped s 8 = false ∧
     (State.gate s 8).owner ≠ .trip ∧
     true = (urgentFlag f.flags && decide (min f.valueA.toNat 10000 ≤ (State.gate s 8).admitted))) :=
  ⟨⟨at_gate8 _ rfl rfl, usable_sp _ _ _ _ rfl, by decide +kernel⟩,
   ⟨at_gate8 _ rfl rfl, usable_sp _ _ _ _ rfl, by decide +kernel⟩⟩

/-- Gate 8 under the engine, with each kind of target: no command; a command that is not urgent; an urgent one above
the opening; BLOCKED. -/
theorem witness_EngineTargetIsPursued :
    (∀ a, let s := slot8 { gate8 with owner := .engine, target := some a }
      AtCommand s 8 ∧ Silent s 8 blankIdle ∧ (State.gate s 8).target = some a) ∧
    (let s := slot8 { gate8 with owner := .engine, target := some .closeUrgent }
     GateState.counted (State.gate s 8).state = true ∧ State.tripped s 8 = false ∧
     (State.gate s 8).owner = .engine ∧ urgentFlag (sp 8 1000 3 0).flags = false ∧
     (State.gate s 8).admitted < min (sp 8 2001 3 1).valueA.toNat 10000) ∧
    (let s := slot8 { gate8 with state := .blocked, causeOut := true, owner := .engine, target := some (.set 0) }
     AtCommand s 8 ∧ Usable s 8 (sp 8 1000 3 1) ∧ (State.gate s 8).state = .blocked ∧
     (State.gate s 8).owner = .engine) :=
  ⟨fun _ => ⟨at_gate8 _ rfl rfl, idle_is_silent _ _, by simp [slot8, inSlot, State.gate, State.setGate]⟩,
   by decide +kernel, at_gate8 _ rfl rfl, usable_sp _ _ _ _ rfl, by decide +kernel⟩

/-- Gate 8, whose hold limit is 2: below it, and at it with its loss action DRIVE_TO; gate 0, whose loss action is
HOLD, at its limit 3; supervision LOST. -/
theorem witness_SilentGateIsHeldOrDriven :
    (AtCommand (slot8 gate8) 8 ∧ Silent (slot8 gate8) 8 blankIdle ∧ (State.gate (slot8 gate8) 8).state = .service ∧
      State.tripped (slot8 gate8) 8 = false ∧ (State.gate (slot8 gate8) 8).owner = .dispatch ∧
      ¬ holdLimit table 8 ≤ min 255 ((State.gate (slot8 gate8) 8).holdCount + 1)) ∧
    (let s := slot8 { gate8 with holdCount := 1 }
     AtCommand s 8 ∧ Silent s 8 blankIdle ∧ holdLimit table 8 ≤ min 255 ((State.gate s 8).holdCount + 1) ∧
       holdLimit table 8 ≠ 0 ∧ driveTo table 8 = true) ∧
    (let s := State.setGate (inSlot demo 6) 0 { gate0 with holdCount := 2 }
     AtCommand s 0 ∧ holdLimit table 0 ≤ min 255 ((State.gate s 0).holdCount + 1) ∧ driveTo table 0 = false) ∧
    (let s := { slot8 { gate8 with state := .stale, owner := .loss } with spu := { sup := .lost } }
     AtCommand s 8 ∧ Silent s 8 (sp 8 1000 3 0)) :=
  ⟨⟨at_gate8 _ rfl rfl, idle_is_silent _ _, by decide +kernel⟩,
   ⟨at_gate8 _ rfl rfl, idle_is_silent _ _, by decide +kernel⟩, ⟨at_gate0 _ rfl rfl, by decide +kernel⟩,
   ⟨at_gate8 _ rfl rfl, fun h => absurd h.1 (by decide)⟩⟩

/-- A rising curve; a target inside its flows, below them and above them. Both gauges fresh, and none before a report. -/
theorem witness_RatedFlowAndItsInverses :
    [(0, 0), (3000, 900), (6000, 900), (10000, 2100)].Pairwise (fun a b : Nat × Nat => a.1 < b.1 ∧ a.2 ≤ b.2) ∧
    ((fun o => o) 4 : Nat) ≤ 5 ∧ (∀ o, 6 ≤ o → o ≤ 9 → (5 : Int) < ((fun o => o) o : Nat)) ∧
    (∀ o, 1 ≤ o → o ≤ 4 → (((fun o => o) o : Nat) : Int) < 5) ∧
    (freshIn demo table (headwaterGauge table) = some 58300 ∧ freshIn demo table (tailwaterGauge table) = some 22800 ∧
      freshIn Machine.State.reset Machine.State.reset.tst.table 0 = none) ∧
    (let l := [(0, 0), (3000, 900), (6000, 900), (10000, 2100)]
     l.Pairwise (fun x y : Nat × Nat => x.1 < y.1) ∧ l[2]? = some (6000, 900) ∧ l[3]? = some (10000, 2100) ∧
      l.getLast? = some (10000, 2100) ∧ l.head? = some (0, 0) ∧ (3000, 900) ∈ l) := by
  refine ⟨by decide, by decide, fun o h _ => ?_, fun o _ h => ?_, by decide +kernel, by decide⟩ <;> simp <;> omega

theorem witness_ElapsedCountOfAnAdmission :
    ((7 : BitVec 32) - 7).toNat = 0 ∧ ((6 : BitVec 32) - 5).toNat = 1 ∧ ((254 : BitVec 32) - 4294967295).toNat = 255 ∧
    255 < ((256 : BitVec 32) - 0).toNat ∧ (State.stages demo 8 ⟨.dispatch, 2000, true, 3⟩).urgent = true ∧
    (State.stages demo 8 ⟨.dispatch, 2001, true, 3⟩).urgent = false := by decide +kernel

theorem witness_AdmissionStaysInTravelAndRate :
    travelMin table 8 ≤ travelMax table 8 ∧ travelMin demo.tst.table 8 ≤ (State.gate demo 8).admitted ∧
    (State.gate demo 8).admitted ≤ travelMax demo.tst.table 8 ∧
    (State.stages demo 8 ⟨.dispatch, 6000, false, 3⟩).urgent = false := by decide +kernel

/-- Gate 8's flow rises beyond U with an opening that meets the target, falls, and stays; cases E and F of 03 section 3.8:
held at its opening, and going to its travel limit. -/
theorem witness_AdmissionFacesItsBound :
    travelMin table 8 ≤ (State.gate demo 8).admitted ∧ (State.gate demo 8).admitted ≤ travelMax table 8 ∧
    (State.gate demo 8).flow ≤ demo.adu.tally ∧
    (let x := State.stages demo 8 ⟨.dispatch, 6000, false, 3⟩
     let q := flowAt table 8 (State.head demo) x.r2
     x.urgent = false ∧ (State.gate demo 8).flow < q ∧ max demo.scu.upper demo.adu.tally < 12000 - 1627 + q ∧
     2000 ≤ x.r2 ∧ flowAt table 8 (State.head demo) 2000 ≤ 13500 - (12000 - 1627)) ∧
    flowAt table 8 (State.head demo) (State.stages demo 8 ⟨.dispatch, 1900, false, 3⟩).r2 <
      (State.gate demo 8).flow ∧
    flowAt table 8 (State.head demo) (State.stages demo 8 ⟨.dispatch, 2000, false, 3⟩).r2 =
      (State.gate demo 8).flow ∧
    (let s := State.setGauge { caseB with rpu := { caseB.rpu with cycleNumber := some 20070 } } 0 ⟨some 62800, 0, 0⟩
     (State.gate s 8).flow < flowAt s.tst.table 8 (State.head s) (State.stages s 8 ⟨.dispatch, 3537, false, 35⟩).r2 ∧
     13500 - (13500 - 3127) < flowAt s.tst.table 8 (State.head s) 3537 ∧ 3537 ≤ travelMax s.tst.table 8) ∧
    (let s := { caseB with
       rpu := { caseB.rpu with cycleNumber := some 20105 }, scu := { caseB.scu with lower := 13200, lowerTerm := .floor },
       tst := { table := WordStore.write table 0x103 3000 } }
     flowAt s.tst.table 8 (State.head s) (State.stages s 8 ⟨.dispatch, 3537, false, 36⟩).r2 < (State.gate s 8).flow ∧
     travelMax s.tst.table 8 < (State.gate s 8).admitted ∧
     flowAt s.tst.table 8 (State.head s) 3000 < 13200 - (13500 - 3127)) := by decide +kernel

/-- The TELEMETRY slot next. -/
def tele (g : GateIx) (r : Gate) : Machine.State := inSlot (State.setGate demo g r) 2

theorem at_tele (g : GateIx) (r : Gate) : AtTelemetry (tele g r) 0xFF := at_telemetry _ rfl rfl

/-- Slots 0 and 1: MANAGEMENT, and TELEMETRY with the given binding. -/
def boundSlots (binding : Nat) : SlotTable := ⟨2, [0x0300, BitVec.ofNat 16 (0x0200 + binding)]⟩

/-- The state whose next frame takes a TELEMETRY slot with the given binding. -/
def inBound (s : Machine.State) (binding : Nat) : Machine.State :=
  { s with rpu := { s.rpu with slotPos := 1, active := some (boundSlots binding) } }

/-- A TELEMETRY slot bound to gate 8, and one bound to gauge 1. -/
theorem at_bound (s : Machine.State) (h1 : s.rpu.state = .run) (h2 : s.handed.ages = false) :
    AtTelemetry (inBound s 8) (8 : GateIx).val ∧ AtTelemetry (inBound s 0x81) (0x80 + (1 : GaugeIx).val) :=
  ⟨⟨boundSlots 8, ⟨h1, rfl, (by decide : 1 < 2), (by decide +kernel : SlotTable.role (boundSlots 8) 1 = .telemetry), h2⟩,
    (by decide +kernel : entryBinding (SlotTable.entry (boundSlots 8) 1) = 8)⟩,
   ⟨boundSlots 0x81, ⟨h1, rfl, (by decide : 1 < 2),
      (by decide +kernel : SlotTable.role (boundSlots 0x81) 1 = .telemetry), h2⟩,
    (by decide +kernel : entryBinding (SlotTable.entry (boundSlots 0x81) 1) = 0x81)⟩⟩

/-- Gate 5 in ACQUIRE and in LOCAL; a measured opening above 10000, and each drive status. -/
theorem witness_PositionReTracks :
    AtTelemetry (tele 5 { state := .acquire }) 0xFF ∧ AtTelemetry (tele 5 { state := .localControl }) 0xFF ∧
    AtTelemetry (inBound (State.setGate demo 8 { state := .localControl }) 8) (8 : GateIx).val ∧
    (ff 5 65535 0).id.toNat = (5 : GateIx).val ∧ (State.gate (tele 5 { state := .acquire }) 5).state = .acquire ∧
    (State.gate (tele 5 { state := .localControl }) 5).state = .localControl ∧
    10000 = min 10000 (ff 5 65535 0).valueA.toNat ∧ (ff 5 0 0).valueB = 0 ∧ (ff 5 0 2).valueB = 2 ∧
    (ff 5 0 1).valueB ≠ 0 ∧ (ff 5 0 3).valueB ≠ 2 ∧ GateOk (State.gate (tele 5 { state := .acquire }) 5) ∧
    GateOk (State.gate (tele 5 { state := .localControl }) 5) :=
  ⟨at_tele _ _, at_tele _ _, (at_bound _ rfl rfl).1, by unfold GateOk; decide +kernel⟩

/-- Gate 8 at 2000 in SERVICE: reports at the deviation limit 300 and one above it, at the second and the third in
succession; FAULT and LOCAL. -/
theorem witness_PositionOfServedGate :
    (∀ r, AtTelemetry (tele 8 r) 0xFF) ∧ AtTelemetry (inBound demo 8) (8 : GateIx).val ∧ (ff 8 2300 0).id.toNat = (8 : GateIx).val ∧ gate8.state = .service ∧
    distance (min 10000 (ff 8 2300 0).valueA.toNat) gate8.admitted ≤ devLimit (tele 8 gate8).tst.table 8 ∧
    devLimit (tele 8 gate8).tst.table 8 < distance (min 10000 (ff 8 2301 0).valueA.toNat) gate8.admitted ∧
    devTime table 8 ≤ min 255 (2 + 1) ∧ gate8.deviating = false ∧ min 255 (1 + 1) < devTime table 8 ∧
    ((ff 8 0 1).valueB ≠ 0 ∧ (ff 8 0 1).valueB ≠ 2) ∧ (ff 8 0 2).valueB = 2 :=
  ⟨fun _ => at_tele _ _, (at_bound _ rfl rfl).1, by decide +kernel⟩

theorem witness_PositionOfBlockedOrVacantGate :
    (∀ g r, AtTelemetry (tele g r) 0xFF) ∧ (ff 3 100 0).id.toNat = (3 : GateIx).val ∧ (State.gate demo 3).state = .vacant ∧
    (∀ out : Bool, (State.gate (tele 8 { gate8 with state := .blocked, causeOut := out }) 8).state = .blocked ∧
      (State.gate (tele 8 { gate8 with state := .blocked, causeOut := out }) 8).causeOut = out) ∧
    (ff 8 100 0).id.toNat = (8 : GateIx).val ∧ ((ff 8 0 3).valueB ≠ 0 ∧ (ff 8 0 3).valueB ≠ 2) ∧
    GateOk { gate8 with state := .blocked, causeFault := true } ∧ (ff 8 0 2).valueB = 2 :=
  ⟨fun _ _ => at_tele _ _, by unfold GateOk; decide +kernel⟩

/-- A bad reading; gauge 1, not the headwater; gauge 0 at the flood stage of 60000 and one below it. -/
theorem witness_StageReportIsTaken :
    AtTelemetry (inSlot demo 2) 0xFF ∧ AtTelemetry (inBound demo 0x81) (0x80 + (1 : GaugeIx).val) ∧
    (let s := inSlot { demo with scu := { demo.scu with mode := .flood, exitDwell := 1 } } 2
     AtTelemetry s 0xFF ∧ s.scu.mode = .flood) ∧
    ({ ff 1 5 0 with flags := 1 } : FrameFields).flags.getLsbD 0 = true ∧
    (ff 1 5 0).flags.getLsbD 0 = false ∧ (ff 1 5 0).id.toNat = (1 : GaugeIx).val ∧
    headwaterGauge table ≠ (1 : GaugeIx).val ∧ (ff 0 60000 0).id.toNat = (0 : GaugeIx).val ∧
    headwaterGauge table = (0 : GaugeIx).val ∧ demo.scu.mode = .normal ∧ demo.scu.declared = false ∧
    State.inputActive demo .floodAlarm = false ∧ 0 < staleLimit table ∧
    floodStage table ≤ (ff 0 60000 0).valueA.toNat ∧ (ff 0 59999 0).valueA.toNat < floodStage table :=
  ⟨at_telemetry _ rfl rfl, (at_bound _ rfl rfl).2, ⟨at_telemetry _ rfl rfl, rfl⟩, by decide +kernel⟩

/-- The HEARTBEAT slot next; last sequence 6, and 15 before a 0. -/
theorem witness_HeartbeatInPresent :
    AtSlot (inSlot demo 3) slots .heartbeat ∧ (inSlot demo 3).handed.window = false ∧ demo.spu.sup = .present ∧
    demo.spu.lastSeq = some 6 ∧ (ff 0 7 0).valueA.extractLsb' 0 4 = (6 : BitVec 4) + 1 ∧
    (ff 0 16 0).valueA.extractLsb' 0 4 = (15 : BitVec 4) + 1 ∧
    demo.spu.lastSeq ≠ some ((ff 0 9 0).valueA.extractLsb' 0 4 - 1) :=
  ⟨at_slot _ 3 _ rfl rfl (by omega) role_of_slots.2.2.2.1, by decide⟩

theorem witness_HeartbeatWhileNotPresent :
    (∀ p : Spu, AtSlot { inSlot demo 3 with spu := p } slots .heartbeat) ∧ (inSlot demo 3).handed.window = false ∧
    (let p : Spu := {}; p.sup ≠ .present ∧ p.run = false) ∧
    (let p : Spu := { sup := .lost, run := true, lastSeq := some 3 }
     p.sup ≠ .present ∧ p.run = true ∧ p.lastSeq = some ((ff 0 4 0).valueA.extractLsb' 0 4 - 1) ∧
     p.lastSeq ≠ some ((ff 0 5 0).valueA.extractLsb' 0 4 - 1)) :=
  ⟨fun _ => at_slot _ 3 _ rfl rfl (by omega) role_of_slots.2.2.2.1, by decide⟩

/-- Queues of 15 and of 16 with no CLAMP of gate 8, and one of 16 that ends with it; the NOTICE slot next, with an empty
queue, with one entry, and with entries lost. -/
theorem witness_NoticeLeavesInItsSlot :
    (∀ d, Notice.clamp 8 d ∉ List.replicate 15 Notice.image) ∧ (List.replicate 15 Notice.image).length < 16 ∧
    (∀ d, Notice.clamp 8 d ∉ List.replicate 16 Notice.image) ∧ 16 ≤ (List.replicate 16 Notice.image).length ∧
    (List.replicate 15 Notice.image ++ Notice.clamp 8 ⟨.rate, none, 5, 6⟩ :: []).length = 16 ∧
    (∀ u : Ncu, AtSlot { inSlot demo 4 with ncu := u } slots .notice) ∧ demo.ncu.queue = [] ∧
    (let u : Ncu := { queue := [.image] }; u.queue = .image :: [] ∧ u.lost = 0) ∧
    (let u : Ncu := { queue := List.replicate 16 .image, lost := 1 }
     u.queue = .image :: List.replicate 15 .image ∧ 0 < u.lost) :=
  ⟨by simp, by decide, by simp, by decide, by decide,
    fun _ => at_slot _ 4 _ rfl rfl (by omega) role_of_slots.2.2.2.2.1, by decide⟩

/-- LOAD; SYNC; and position S itself. -/
theorem witness_FramesWithoutSlot :
    Machine.State.reset.rpu.state = .load ∧
    (let s := { demo with rpu := { demo.rpu with state := .sync, active := none } }
     s.rpu.state ≠ .load ∧ s.rpu.active = none ∧ s.handed.ages = false) ∧
    (let s := inSlot demo 7
     s.rpu.state = .run ∧ s.rpu.active = some slots ∧ slots.count ≤ s.rpu.slotPos ∧ s.handed.ages = false) ∧
    Frame.isMarker blankIdle = false ∧ Frame.isMarker badFrame = false ∧ Frame.isMarker (sp 8 1 2 0) = false := by
  decide +kernel

/-- A slot of each role; frames for each clause; reports with ids out of range, and one that a binding does not admit. -/
theorem witness_FramesInOtherSlots :
    AtSlot (inSlot demo 5) slots .unused ∧ AtSlot (inSlot demo 1) slots .command ∧
    AtSlot (inSlot demo 0) slots .management ∧ AtSlot (inSlot demo 2) slots .telemetry ∧
    AtSlot (inSlot demo 3) slots .heartbeat ∧ AtSlot (inSlot demo 4) slots .notice ∧
    AtSlot (inBound demo 8) (boundSlots 8) .telemetry ∧
    entryBinding (SlotTable.entry slots 1) = (8 : GateIx).val ∧ (ff 9 1 0).id.toNat ≠ (8 : GateIx).val ∧
    Frame.good badFrame = false ∧ Frame.good blankIdle = true ∧ blankIdle.kind ≠ kindCycle ∧
    blankIdle.kind ≠ kindSetpoint ∧ blankIdle.kind ≠ kindPosition ∧ blankIdle.kind ≠ kindStage ∧
    blankIdle.kind ≠ kindHeartbeat ∧ blankIdle.kind ≠ kindMgmtReq ∧ Frame.isMarker blankIdle = false ∧
    Frame.good (goodFrame kindStage (ff 0 0 0)) = true ∧ (goodFrame kindStage (ff 0 0 0)).kind ≠ kindIdle ∧
    24 ≤ (ff 24 0 0).id.toNat ∧ 8 ≤ (ff 8 0 0).id.toNat ∧ 8 ≠ 0xFF ∧ 8 ≠ (ff 9 0 0).id.toNat ∧
    8 ≠ 0x80 + (ff 0 0 0).id.toNat := by
  refine ⟨at_slot _ 5 _ rfl rfl ?_ role_of_slots.2.2.2.2.2.1, at_slot _ 1 _ rfl rfl ?_ role_of_slots.2.1,
    at_slot _ 0 _ rfl rfl ?_ role_of_slots.1, at_slot _ 2 _ rfl rfl ?_ role_of_slots.2.2.1,
    at_slot _ 3 _ rfl rfl ?_ role_of_slots.2.2.2.1, at_slot _ 4 _ rfl rfl ?_ role_of_slots.2.2.2.2.1,
    ⟨rfl, rfl, ?_, ?_, rfl⟩, ?_⟩
  all_goals decide +kernel

/-- The state with its up port or its down port as given. -/
def withUp (r : LinkPort) : Machine.State := { demo with clu := { demo.clu with up := r } }
def withDown (r : LinkPort) : Machine.State := { demo with clu := { demo.clu with down := r } }

/-- Absent ports; present ones, DOWN and UP, with messages for each clause; station indices at the ends. -/
theorem witness_LinkReceipt :
    (State.port (withUp { state := .down }) .up).state = .down ∧
    (State.port (withDown { state := .down }) .down).state = .down ∧
    expectedSender (withUp { state := .down }).tst.table .up = some (lf 3 0 0).sender.toNat ∧
    expectedSender (withDown { state := .down }).tst.table .down = some (lf 5 0 0).sender.toNat ∧
    (State.port (withDown {}) .down).state = .absent ∧
    stationIndex (WordStore.write table 0x004 0) = 0 ∧ stationIndex (WordStore.write table 0x004 7) = 7 ∧
    (State.port { demo with clu := {} } .up).state = .absent ∧ (State.port demo .up).state ≠ .absent ∧
    LinkMsg.good { goodMsg msgBeacon (lf 7 0 0) with sender := 6 } = false ∧ (0 < 1 ∧ 1 < 12) ∧ (0 < 11 ∧ 11 < 12) ∧
    LinkMsg.good (goodMsg msgBeacon (lf 7 0 0)) = true ∧
    expectedSender demo.tst.table .up ≠ some (goodMsg msgBeacon (lf 7 0 0)).sender.toNat ∧
    expectedSender demo.tst.table .up = some (lf 3 0 0).sender.toNat ∧
    expectedSender demo.tst.table .down = some (lf 5 0 0).sender.toNat ∧ 4 < (5 : Byte).toNat := by decide +kernel

/-- The port of 06 Table 6-7, UP and (in a state that no run reaches) DOWN: a TAKEN that matches and one that does not; the TAKEN count and the silence count one below
their limits and two below them. -/
theorem witness_OutboundRegister :
    (State.port (withUp { upPort with state := .down }) .up).state ≠ .absent ∧
    (State.port (withUp { state := .down }) .up).register = none ∧
    upPort.state = .up ∧ expectedSender demo.tst.table .up = some (lf 3 0 0).sender.toNat ∧
    upPort.register = some ⟨⟨.curtail, 14000, 4⟩, 12, .left⟩ ∧
    (⟨3, 12, 2, 0, 0, 0⟩ : LinkFields).flags = DataKind.code .curtail ∧ (⟨3, 11, 2, 0, 0, 0⟩ : LinkFields).tag ≠ 12 ∧
    takenTimeoutLimit table ≤ upPort.takenCount + 1 ∧ 298 + 1 < takenTimeoutLimit table ∧
    silenceLimit table ≤ min 65535 (999 + 1) ∧ min 65535 (998 + 1) < silenceLimit table ∧
    TickPart.taken .up ∉ demo.handed.ticked ∧ TickPart.silence .up ∉ demo.handed.ticked := by decide +kernel

/-- The ports, UP and DOWN; a due interval that is queued and one that is not; a full queue; durations 0 and 1. -/
theorem witness_ReleaseAndCurtailAreTaken :
    (withUp { state := .down }).clu.up.state ≠ .absent ∧ (withDown { state := .down }).clu.down.state ≠ .absent ∧
    demo.clu.up.state = .up ∧ demo.clu.down.state = .up ∧
    expectedSender demo.tst.table .up = some (lf 3 0 0).sender.toNat ∧
    expectedSender demo.tst.table .down = some (lf 5 0 0).sender.toNat ∧
    (∃ x ∈ [(⟨100, 102, 5, false, 0⟩ : Arrival)],
      x.due = demo.scu.intervalNumber + BitVec.ofNat 32 (linkLag demo.tst.table)) ∧
    (let l := (List.range 64).map (fun n => (⟨0, BitVec.ofNat 32 (200 + n), 5, false, 0⟩ : Arrival))
     64 ≤ l.length ∧ ∀ x ∈ l, x.due ≠ demo.scu.intervalNumber + BitVec.ofNat 32 (linkLag demo.tst.table)) ∧
    (lf 5 0 0).dur = 0 ∧ (lf 5 0 1).dur ≠ 0 := by decide +kernel

/-- A port for each clause: absent; the register's message on the line; a reply, a message and a BEACON waiting; the beacon
timer one below 100 ms and two below it. -/
theorem witness_TransmitterOrder :
    (State.port demo .up).state ≠ .absent ∧ (State.port Machine.State.reset .up).state = .absent ∧
    (let r : LinkPort := { state := .up, register := some ⟨⟨.release, 9, 1⟩, 1, .onLine⟩ }
     r.replies = [] ∧ r.beaconDue = false ∧ ∀ o, r.register = some o → o.phase ≠ .waiting) ∧
    (let r : LinkPort := { state := .up, replies := [⟨msgRelease, 7⟩] }
     r.state ≠ .absent ∧ r.replies = ⟨msgRelease, 7⟩ :: []) ∧
    (let r : LinkPort := { state := .up, register := some ⟨⟨.release, 9, 1⟩, 1, .waiting⟩ }
     r.replies = [] ∧ r.register = some ⟨⟨.release, 9, 1⟩, 1, .waiting⟩) ∧
    (let r : LinkPort := { state := .down, beaconDue := true, beaconTimer := 99 }
     r.replies = [] ∧ r.register = none ∧ r.beaconDue = true ∧ 100 ≤ r.beaconTimer + 1) ∧
    (let r : LinkPort := { state := .down, beaconTimer := 98 }
     r.replies = [] ∧ r.register = none ∧ r.beaconDue = false ∧ r.beaconTimer + 1 < 100) ∧
    TickPart.beacon .up ∉ demo.handed.ticked :=
  ⟨by decide, rfl, ⟨rfl, rfl, fun _ h => Option.some.inj h ▸ nofun⟩, by decide, by decide, by decide, by decide, by decide⟩

/-- A pin about to be sampled for the first time; the third sample and the fourth, of a line to be taken active and of
one to be taken inactive, in NORMAL, in FLOOD and in LOAD; a sample already taken, and RESET_N asserted. -/
theorem witness_PanelFilterTakesFourSamples :
    demo.tst.resetAsserted = false ∧ demo.rpu.state ≠ .load ∧ demo.pending = [] ∧ demo.handed.ticked = [] ∧
    (∀ (i : PanelInput) (r : PanelLine), State.panel (State.setPanel demo i r) i = r ∧
      TickPart.sample i ∉ (State.setPanel demo i r).handed.ticked) ∧
    (let r : PanelLine := ⟨true, false, 0⟩
     r.pin ≠ r.level ∧ r.count = 0) ∧
    (∀ level : Bool, let r : PanelLine := ⟨!level, !level, 2⟩
     level ≠ r.level ∧ r.count + 1 < 4) ∧
    (∀ level : Bool, let r : PanelLine := ⟨!level, !level, 3⟩
     level ≠ r.level ∧ 4 ≤ r.count + 1) ∧
    demo.scu.mode = .normal ∧ ({ demo with scu := { demo.scu with mode := .flood } } : Machine.State).scu.mode = .flood ∧
    Machine.State.reset.rpu.state = .load ∧ Machine.State.reset.tst.resetAsserted = false ∧
    (∀ i, TickPart.sample i ∈ ({ demo with handed := { ticked := [.sample i] } } : Machine.State).handed.ticked) ∧
    ({ demo with tst := { demo.tst with resetAsserted := true } } : Machine.State).tst.resetAsserted = true := by
  refine ⟨rfl, by decide, rfl, rfl, fun i r => ⟨by simp [State.panel, State.setPanel], List.not_mem_nil⟩, by decide,
    by decide, by decide, rfl, rfl, rfl, rfl, fun i => List.mem_singleton.2 rfl, rfl⟩

/-- For each test a request that fails it and none before it, and a request that passes all. -/
theorem witness_RefusedRequestChangesNothing :
    AtManagement demo ∧ OpFails 0 (rq 0 0) ∧ OpFails 11 (rq 0 0) ∧ OpFails 10 (rq 0 0x0F00) ∧ ¬ OpFails 10 (rq 0 0x0E00) ∧
    RangeFails demo 1 (rq 0x0060 0) ∧ RangeFails demo 1 (rq 0x8420 0) ∧ ¬ RangeFails demo 1 (rq 0x841F 0) ∧
    RangeFails demo 10 (rq 0 0x0918) ∧ ¬ RangeFails demo 10 (rq 0 0x0917) ∧ ¬ RangeFails demo 6 (rq 0 2) ∧
    (let s := { demo with mgu := { demo.mgu with lock := .limits } }; LockFails s 6 (rq 0 2) ∧ ¬ LockFails s 6 (rq 0 1)) ∧
    (¬ RangeFails demo 10 (rq 0 0x0200) ∧ ¬ LockFails demo 10 (rq 0 0x0200) ∧ MaintFails demo 10 (rq 0 0x0200)) ∧
    (let s := { demo with mgu := { demo.mgu with op := some .store } }
     ¬ LockFails s 10 (rq 0 0x0400) ∧ ¬ MaintFails s 10 (rq 0 0x0400) ∧ BusyFails s 10 (rq 0 0x0400) ∧
     ¬ BusyFails s 10 (rq 0 0x0E00)) ∧
    (¬ RangeFails demo 3 (rq 0x0267 0) ∧ ¬ LockFails demo 3 (rq 0x0267 0) ∧ ¬ BusyFails demo 3 (rq 0x0267 0) ∧
     EditFails demo 3 (rq 0x0267 0)) ∧
    (let s := { demo with mgu := { demo.mgu with buffer := some (curve3 4500) } }
     ¬ EditFails s 7 (rq 0 0) ∧ InvalidAt s 7 0x267 .order) ∧
    managementRequest (.floodCancel (cr 0)) = some (10, rq 0 0x0D00) := by
  have hb : demo.mgu.buffer = none := rfl
  refine ⟨at_management _ rfl rfl, ?_⟩
  simp only [OpFails, RangeFails, LockFails, GroupLocked, MaintFails, BusyFails, EditFails, InvalidAt, toState, hb]
  simp
  repeat' apply And.intro
  all_goals decide +kernel

/-- Addresses at the ends of both spaces; group 29 open and closed; a pointer at its space's last word. -/
theorem witness_ReadsAndPointers :
    (∀ u : Mgu, AtManagement { demo with mgu := u }) ∧ (rq 0x841F 0).valueA.extractLsb' 12 4 = 8 ∧
    ((rq 0x841F 0).valueA.extractLsb' 0 12).toNat ≤ 0x41F ∧ (rq 0x074F 0).valueA.extractLsb' 12 4 = 0 ∧
    groupOf ((rq 0x074F 0).valueA.extractLsb' 0 12).toNat = some 76 ∧
    ((rq 0x074F 0).valueA.extractLsb' 0 12).toNat ≤ 0x74F ∧ (curve3 7500).group = 29 ∧ groupOf 0x267 = some 29 ∧
    inRequestArea 0x267 = false ∧ ((0x41F : BitVec 12)).toNat ≤ 0x41F ∧ usedWord ((0x74F : BitVec 12)).toNat = true ∧
    demo.mgu.buffer = none ∧ (rq 0 0).valueA.extractLsb' 12 4 = 0 ∧
    usedWord 0x267 = true := ⟨fun _ => at_management _ rfl rfl, by decide +kernel⟩

theorem witness_EditsAndWrites :
    (∀ u : Mgu, AtManagement { demo with mgu := u }) ∧ (rq 0 76).valueB.toNat ≤ 76 ∧ demo.mgu.lock = .open ∧
    demo.mgu.op = none ∧ demo.mgu.buffer = none ∧ WordStore.wf demo.tst.table = true ∧ groupOf 0x740 = some 76 ∧
    (rq 0x267 7500).valueA.extractLsb' 12 4 = 0 ∧ ((rq 0x267 7500).valueA.extractLsb' 0 12).toNat = 0x267 ∧
    usedWord 0x267 = true ∧ inRequestArea 0x267 = false ∧ groupOf 0x267 = some (curve3 4500).group ∧
    inRequestArea ((rq 0x74D 255).valueA.extractLsb' 0 12).toNat = true ∧ (rq 0x74D 255).valueB.toNat ≤ 255 ∧
    ((rq 0x74E 0xFFFF).valueA.extractLsb' 0 12).toNat = 0x74E ∧ (0x267 : BitVec 12).toNat = 0x267 ∧
    (curve3 4500).group ≤ 76 ∧ (rq 0 0).valueA.extractLsb' 12 4 = 0 ∧
    inRequestArea ((0x74D : BitVec 12)).toNat = true ∧ demo.mgu.lock ≠ .full ∧ ¬ GroupLocked .open 29 ∧
    ¬ GroupLocked .limits 75 ∧ ¬ GroupLocked .limits 1 := by
  refine ⟨fun _ => at_management _ rfl rfl, ?_⟩
  unfold GroupLocked
  decide +kernel

/-- Log 34: a headwater gauge above the flood stage, stale by the limit of 100 and fresh by one of 200. -/
theorem test_stale_limit_install_may_enter_flood :
    (let s := { demo with adu := { demo.adu with gauges := demo.adu.gauges.set 0 { level := some 65535, age := 150 } } }
     entryCause s table = none ∧ entryCause s (WordStore.write table 0x007 200) = some .stage ∧
     (let t := State.installStation { s with tst := { table := WordStore.write table 0x007 200 } }
      t.scu.mode = .flood ∧ t.ncu.queue = [.mode .flood .stage])) := by decide +kernel

/-- The buffer of 09 Table 9-9 at steps 5 and 7; ENGINE, STATION and LINK groups as installed, and the LINK group with its
down port taken out. -/
theorem witness_CheckInstallsTheGroup :
    (∀ u : Mgu, AtManagement { demo with mgu := u }) ∧ (curve3 4500).group ≤ 76 ∧
    Lock.forbidsGroup .open 29 = false ∧ demo.mgu.op = none ∧
    validate 29 (curve3 4500).words table = some (0x267, .order) ∧ validate 29 (curve3 7500).words table = none ∧
    WordStore.wf demo.tst.table = true ∧ validate 75 (copyGroup 75 table) table = none ∧
    (let t := WordStore.write table 0x0D0 0; validate 0 (copyGroup 0 t) t = none) ∧ validate 76 (copyGroup 76 table) table = none ∧
    validate 10 (copyGroup 10 table) table = none ∧
    validate 76 (WordStore.write (copyGroup 76 table) 0x741 0) table = none ∧
    portFitted (installGroup 76 (WordStore.write (copyGroup 76 table) 0x741 0) table) .down = false ∧
    (State.port demo .down).state = .up ∧ FaultAt 29 (curve3 4500).words table 0x267 .order ∧
    BindingsOk (WordStore.write table 0x0D0 0) := by
  refine ⟨fun _ => at_management _ rfl rfl, ?_, ?_, ?_, ?_, ?_, ?_, ?_, ?_, ?_, ?_, ?_, ?_, ?_,
    .inr (.inr (.inr (.inl ⟨3, by decide, rfl, 5, _, _, by decide +kernel, fun _ => rfl, fun _ => rfl,
      .inr ⟨3, by decide, by decide, .inl ⟨by decide, .inr (.inr (by decide +kernel))⟩⟩⟩))), ?_⟩
  rotate_right
  · unfold BindingsOk BoundOnce SameSingleRole BoundAt
    decide +kernel
  all_goals decide +kernel

/-- Gate 8 emptied; gate 5, VACANT, of a present kind; gate 8 in SERVICE of a present kind. -/
theorem witness_GateInstallActsOnItsGate :
    gateKind ({ demo with tst := { table := WordStore.write table 0x100 0 } }).tst.table 8 = .absent ∧
    gateKind (State.setGate demo 5 {}).tst.table 5 ≠ .absent ∧
    (State.gate (State.setGate demo 5 {}) 5).state = .vacant ∧ gateKind demo.tst.table 8 ≠ .absent ∧
    (State.gate demo 8).state ≠ .vacant := by decide +kernel

theorem witness_CaptureCopiesCounters :
    AtManagement demo ∧ (rq 0 0).valueB = 0 ∧ (rq 0 1).valueB = 1 := ⟨at_management _ rfl rfl, rfl, rfl⟩

/-- MAINT_ENABLE active. -/
def maintenance : Machine.State :=
  { demo with spu := { demo.spu with inputs := demo.spu.inputs.set 1 ⟨true, true, 0⟩ } }

theorem witness_EngineRunControl :
    AtManagement maintenance ∧ maintenance.handed.evaluation = false ∧ maintenance.mgu.lock ≠ .full ∧
    State.inputActive maintenance .maintEnable = true := ⟨at_management _ rfl rfl, by decide +kernel⟩

theorem witness_LockAndStoreCommands :
    AtManagement maintenance ∧ maintenance.mgu.op = none ∧ Accepts maintenance ∧
    maintenance.mgu.commission = false ∧ State.inputActive maintenance .maintEnable = true ∧
    (let s := { demo with mgu := { demo.mgu with commission := true, lock := .limits } }
     Accepts s ∧ s.mgu.commission = true) :=
  ⟨at_management _ rfl rfl, rfl, ⟨at_management _ rfl rfl, by decide, rfl⟩, rfl, by decide +kernel,
   ⟨at_management _ rfl rfl, by decide, rfl⟩, rfl⟩

/-- Gate 8 in SERVICE, gate 5 in ACQUIRE, gate 23 in VACANT, and gate 8 blocked by each cause. -/
theorem witness_GateOutAndIn :
    (∀ r, AtManagement (State.setGate demo 8 r)) ∧ demo.mgu.lock ≠ .full ∧ (cr 8).arg.toNat = (8 : GateIx).val ∧
    (State.gate demo 8).state = .service ∧ (cr 5).arg.toNat = (5 : GateIx).val ∧
    (State.gate demo 5).state = .acquire ∧ (cr 23).arg.toNat = (23 : GateIx).val ∧
    (State.gate demo 23).state = .vacant ∧
    (∀ fault : Bool, let r : Gate := { gate8 with state := .blocked, causeOut := true, causeFault := fault }
      r = State.gate (State.setGate demo 8 r) 8 ∧ r.state = .blocked ∧ r.causeOut = true ∧ r.causeFault = fault) :=
  ⟨fun _ => at_management _ rfl rfl, by decide +kernel⟩

theorem witness_ScheduleAndFloodCommands :
    AtManagement demo ∧ demo.mgu.lock ≠ .full ∧ ((cr 31).arg.toNat = 31 ∧ 31 ≤ 31) ∧ demo.scu.mode = .normal ∧
    (let s := { demo with scu := { demo.scu with mode := .flood } }; AtManagement s ∧ s.scu.mode = .flood) :=
  ⟨at_management _ rfl rfl, by decide, by decide, rfl, at_management _ rfl rfl, rfl⟩

end Sys2Proof.Tests
end

namespace Sys2Proof.Machine

open Safety

/-! ### What the acts of the blocks leave alone -/

@[simp] theorem State.notifyOpt_rpu (s : State) (n : Option Notice) : (State.notifyOpt s n).rpu = s.rpu := by
  cases n <;> rfl

/-- R91, R96: a cursor's notice reaches the NCU alone. -/
theorem notifyOpt_frame (s : State) (n : Option Notice) :
    (State.notifyOpt s n).adu = s.adu ∧ (State.notifyOpt s n).clu = s.clu ∧ (State.notifyOpt s n).sqe = s.sqe ∧
    (State.notifyOpt s n).spu = s.spu ∧ (State.notifyOpt s n).mgu = s.mgu ∧ (State.notifyOpt s n).tst = s.tst ∧
    (State.notifyOpt s n).handed = s.handed ∧ (State.notifyOpt s n).pending = s.pending := by
  cases n <;> simp [State.notifyOpt]

/-- R99: the exit test of a boundary reaches the SCU and the NCU alone. -/
theorem floodExit_frame (s : State) :
    (State.floodExit s).rpu = s.rpu ∧ (State.floodExit s).adu = s.adu ∧ (State.floodExit s).clu = s.clu ∧
    (State.floodExit s).sqe = s.sqe ∧ (State.floodExit s).spu = s.spu ∧ (State.floodExit s).mgu = s.mgu ∧
    (State.floodExit s).tst = s.tst ∧ (State.floodExit s).handed = s.handed ∧
    (State.floodExit s).pending = s.pending := by
  unfold State.floodExit
  cases s.scu.mode
  · simp
  · dsimp only
    split
    · split <;> simp
    · simp

/-- R86: what the boundary leaves alone. -/
theorem takeBoundary_frame (s : State) :
    (State.takeBoundary s).rpu = s.rpu ∧ (State.takeBoundary s).spu = s.spu ∧ (State.takeBoundary s).tst = s.tst ∧
    (State.takeBoundary s).pending = s.pending := by
  unfold State.takeBoundary State.boundary
  split <;> simp [floodExit_frame, notifyOpt_frame]

/-- R115: what the RELEASE of a boundary leaves alone. -/
theorem produceRelease_frame (s : State) (n : BitVec 32) :
    (State.produceRelease s n).rpu = s.rpu ∧ (State.produceRelease s n).spu = s.spu ∧
    (State.produceRelease s n).tst = s.tst ∧ (State.produceRelease s n).handed = s.handed ∧
    (State.produceRelease s n).pending = s.pending := by
  unfold State.produceRelease
  split
  · simp
  · simp [produce_frame]

/-- R87: re-rating reaches the ADU alone. -/
theorem reRate_frame (s : State) :
    (State.reRate s).rpu = s.rpu ∧ (State.reRate s).spu = s.spu ∧ (State.reRate s).tst = s.tst ∧
    (State.reRate s).handed = s.handed ∧ (State.reRate s).pending = s.pending := by
  simp [State.reRate]

/-- R87, R115: what a re-rating leaves alone; it takes the oldest boundary event handed to the ADU. -/
theorem takeReRating_frame (s : State) :
    (State.takeReRating s).rpu = s.rpu ∧ (State.takeReRating s).spu = s.spu ∧ (State.takeReRating s).tst = s.tst ∧
    (State.takeReRating s).pending = s.pending ∧
    (State.takeReRating s).handed = { s.handed with reRatings := s.handed.reRatings.tail } := by
  unfold State.takeReRating
  cases h : s.handed.reRatings with
  | nil =>
    have e : s.handed = { s.handed with reRatings := [] } := by rw [← h]
    exact ⟨rfl, rfl, rfl, rfl, e⟩
  | cons n rest => simp [produceRelease_frame, reRate_frame]

/-- R121: what a maturing leaves alone. -/
theorem mature_frame (s : State) (n : BitVec 32) :
    (State.mature s n).rpu = s.rpu ∧ (State.mature s n).spu = s.spu ∧ (State.mature s n).tst = s.tst ∧
    (State.mature s n).handed = s.handed ∧ (State.mature s n).pending = s.pending := by
  unfold State.mature
  dsimp only
  split <;> simp

/-- R121: what a maturing leaves alone; it takes the oldest boundary event handed to the CLU. -/
theorem takeMaturity_frame (s : State) :
    (State.takeMaturity s).rpu = s.rpu ∧ (State.takeMaturity s).spu = s.spu ∧ (State.takeMaturity s).tst = s.tst ∧
    (State.takeMaturity s).pending = s.pending ∧
    (State.takeMaturity s).handed = { s.handed with maturities := s.handed.maturities.tail } := by
  unfold State.takeMaturity
  cases h : s.handed.maturities with
  | nil =>
    have e : s.handed = { s.handed with maturities := [] } := by rw [← h]
    exact ⟨rfl, rfl, rfl, rfl, e⟩
  | cons n rest => simp [mature_frame]

/-- R145: what the window comparison leaves alone; no comparison is owed after it. -/
theorem windowTest_frame (s : State) :
    (State.windowTest s).rpu = s.rpu ∧ (State.windowTest s).spu.inputs = s.spu.inputs ∧
    (State.windowTest s).tst = s.tst ∧ (State.windowTest s).mgu = s.mgu ∧ (State.windowTest s).pending = s.pending ∧
    (State.windowTest s).handed = { s.handed with window := false } := by
  unfold State.windowTest
  split
  · dsimp only
    split
    · split
      · simp
      · split <;> simp
    · simp
  · rename_i h
    have e : s.handed = { s.handed with window := false } := by rw [← Bool.eq_false_of_not_eq_true h]
    exact ⟨rfl, rfl, rfl, rfl, rfl, e⟩

/-- R130, R132: an entry hands on its state's action list, and its CURTAIL_UP when it has one. -/
theorem enter_handed (s : State) (dst : Nat) (cause : EntryCause) :
    (State.enter s dst cause).handed = { s.handed with
      actions := s.handed.actions ++ [actionList s.table dst],
      curtails := s.handed.curtails ++ (curtailUpOf s.table dst).toList } := by
  simp [State.enter, handCurtail_eq, State.handActions, State.count, State.setCounters, State.notify]

/-- R128: what the evaluation leaves alone. -/
theorem evaluate_frame (s : State) :
    (State.evaluate s).rpu = s.rpu ∧ (State.evaluate s).adu = s.adu ∧ (State.evaluate s).scu = s.scu ∧
    (State.evaluate s).clu = s.clu ∧ (State.evaluate s).spu = s.spu ∧ (State.evaluate s).mgu = s.mgu ∧
    (State.evaluate s).tst = s.tst ∧ (State.evaluate s).pending = s.pending := by
  unfold State.evaluate
  split
  · dsimp only
    split <;> split <;> (try split) <;> simp [enter_frame]
  · simp

/-- R128: the transition that an evaluation takes, when the engine may take one and one is due. -/
def State.takeTransition (s : State) : State :=
  if (s.sqe.held = false ∨ s.sqe.stepPending = true) ∧ minDwell s.table s.sqe.current ≤ s.sqe.dwell then
    match State.firstTransition s with
    | some n => State.enter s (transitionAt s.table n).dst (.transition n)
    | none => s
  else s

/-- R128, R136: an evaluation that is owed takes its transition and spends a pending step. -/
theorem evaluate_eq {s : State} (h : s.handed.evaluation = true) :
    State.evaluate s =
      (let v := State.takeTransition { s with handed := { s.handed with evaluation := false } }
       if s.sqe.stepPending then { v with sqe := { v.sqe with stepPending := false, held := true } } else v) := by
  simp only [State.evaluate, h, if_true]
  rfl

/-- R130: what a transition hands on. -/
theorem takeTransition_handed (s : State) : ∃ (l : List ActionList) (c : List (Nat × Nat)),
    (State.takeTransition s).handed = { s.handed with
      actions := s.handed.actions ++ l, curtails := s.handed.curtails ++ c } := by
  unfold State.takeTransition
  split
  · split
    · exact ⟨_, _, enter_handed s _ _⟩
    · exact ⟨[], [], by simp⟩
  · exact ⟨[], [], by simp⟩

/-- R128, R130: no evaluation is owed after one, and what it hands on joins what was handed on before. -/
theorem evaluate_handed (s : State) :
    ∃ (l : List ActionList) (c : List (Nat × Nat)), (State.evaluate s).handed = { s.handed with
      evaluation := false, actions := s.handed.actions ++ l, curtails := s.handed.curtails ++ c } := by
  by_cases h : s.handed.evaluation = true
  · obtain ⟨l, c, e⟩ := takeTransition_handed { s with handed := { s.handed with evaluation := false } }
    refine ⟨l, c, ?_⟩
    rw [evaluate_eq h, ← e]
    dsimp only
    split <;> rfl
  · have e : s.handed = { s.handed with evaluation := false } := by rw [← Bool.eq_false_of_not_eq_true h]
    exact ⟨[], [], by simpa [State.evaluate, h] using e⟩



/-- R75: what applying the oldest action list leaves alone. -/
theorem takeActions_frame (s : State) :
    (State.takeActions s).rpu = s.rpu ∧ (State.takeActions s).scu = s.scu ∧ (State.takeActions s).clu = s.clu ∧
    (State.takeActions s).spu = s.spu ∧ (State.takeActions s).tst = s.tst ∧
    (State.takeActions s).pending = s.pending ∧
    (State.takeActions s).handed = { s.handed with actions := s.handed.actions.tail } := by
  unfold State.takeActions
  cases h : s.handed.actions with
  | nil =>
    have e : s.handed = { s.handed with actions := [] } := by rw [← h]
    exact ⟨rfl, rfl, rfl, rfl, rfl, rfl, e⟩
  | cons l rest => simp [State.applyActions]

/-- R114, R132: what producing the oldest curtailment request leaves alone. -/
theorem takeCurtail_frame (s : State) :
    (State.takeCurtail s).rpu = s.rpu ∧ (State.takeCurtail s).adu = s.adu ∧ (State.takeCurtail s).scu = s.scu ∧
    (State.takeCurtail s).spu = s.spu ∧ (State.takeCurtail s).tst = s.tst ∧
    (State.takeCurtail s).pending = s.pending ∧
    (State.takeCurtail s).handed = { s.handed with curtails := s.handed.curtails.tail } := by
  unfold State.takeCurtail
  cases h : s.handed.curtails with
  | nil =>
    have e : s.handed = { s.handed with curtails := [] } := by rw [← h]
    exact ⟨rfl, rfl, rfl, rfl, rfl, rfl, e⟩
  | cons c rest => simp [State.produceCurtail, produce_frame]

/-- R86: the boundary hands on its events, and none is owed after it. -/
theorem takeBoundary_handed (s : State) : ∃ l m : List (BitVec 32), (State.takeBoundary s).handed =
    { s.handed with boundary := false, reRatings := s.handed.reRatings ++ l,
                    maturities := s.handed.maturities ++ m } := by
  unfold State.takeBoundary
  split
  · exact ⟨[(State.boundary s).scu.intervalNumber], [(State.boundary s).scu.intervalNumber],
      by simp [State.boundary, floodExit_frame, notifyOpt_frame]⟩
  · rename_i h
    have e : s.handed = { s.handed with boundary := false } := by rw [← Bool.eq_false_of_not_eq_true h]
    exact ⟨[], [], by simpa using e⟩

/-! ### An act taken several times -/

/-- A part of the state that an act leaves alone is left alone when the act is repeated. -/
theorem repeat_keeps {α : Type} {f : State → State} (p : State → α) (h : ∀ s, p (f s) = p s) (n : Nat) (s : State) :
    p (Nat.repeat f n s) = p s := by
  induction n with
  | zero => rfl
  | succ n ih => exact (h _).trans ih

/-- The first of several repetitions may be split off. -/
theorem repeat_succ_left (f : State → State) (n : Nat) (s : State) :
    Nat.repeat f (n + 1) s = Nat.repeat f n (f s) := by
  induction n with
  | zero => rfl
  | succ n ih => exact congrArg f ih

theorem repeat_takeReRating_handed (n : Nat) (s : State) :
    (Nat.repeat State.takeReRating n s).handed = { s.handed with reRatings := s.handed.reRatings.drop n } := by
  induction n with
  | zero => rfl
  | succ n ih => simp [Nat.repeat, takeReRating_frame, ih]

theorem repeat_takeMaturity_handed (n : Nat) (s : State) :
    (Nat.repeat State.takeMaturity n s).handed = { s.handed with maturities := s.handed.maturities.drop n } := by
  induction n with
  | zero => rfl
  | succ n ih => simp [Nat.repeat, takeMaturity_frame, ih]

theorem repeat_takeActions_handed (n : Nat) (s : State) :
    (Nat.repeat State.takeActions n s).handed = { s.handed with actions := s.handed.actions.drop n } := by
  induction n with
  | zero => rfl
  | succ n ih => simp [Nat.repeat, takeActions_frame, ih]

theorem repeat_takeCurtail_handed (n : Nat) (s : State) :
    (Nat.repeat State.takeCurtail n s).handed = { s.handed with curtails := s.handed.curtails.drop n } := by
  induction n with
  | zero => rfl
  | succ n ih => simp [Nat.repeat, takeCurtail_frame, ih]

/-! ### Commands taken one after another -/

theorem runs_append (l k : List Instr) (s t : State) : Runs (l ++ k) s t ↔ ∃ u, Runs l s u ∧ Runs k u t := by
  induction l generalizing s with
  | nil => simp [Runs]
  | cons c rest ih =>
    simp only [List.cons_append, Runs, ih]
    constructor
    · rintro ⟨v, hv, u, hu, hk⟩
      exact ⟨u, ⟨v, hv, hu⟩, hk⟩
    · rintro ⟨u, ⟨v, hv, hu⟩, hk⟩
      exact ⟨v, hv, u, hu, hk⟩

/-- A command repeated is its act repeated. -/
theorem runs_replicate {c : Instr} {f : State → State} (h : ∀ s, exec c s = .next (f s)) (n : Nat) (s : State) :
    Runs (List.replicate n c) s (Nat.repeat f n s) := by
  induction n generalizing s with
  | zero => rfl
  | succ n ih =>
    rw [repeat_succ_left]
    exact ⟨f s, h s, ih (f s)⟩

/-! ### The acts a marker leaves owing (log 8) -/

/-- The acts between the boundary and what the engine's entry hands on. -/
def State.settleCounts (b : State) : State :=
  State.evaluate (State.windowTest (Nat.repeat State.takeMaturity b.handed.maturities.length
    (Nat.repeat State.takeReRating b.handed.reRatings.length b)))

/-- What the engine's entry has handed on, taken by the ADU and the CLU. -/
def State.settleEntries (v : State) : State :=
  Nat.repeat State.takeCurtail v.handed.curtails.length (Nat.repeat State.takeActions v.handed.actions.length v)

/-- `State.settle`, cut where `Settled` cuts it. -/
theorem settle_eq (s : State) :
    State.settle s = State.takeAges (State.settleEntries (State.settleCounts (State.takeBoundary s))) := by
  simp only [State.settle, State.settleEntries, State.settleCounts, repeat_takeReRating_handed,
    repeat_takeActions_handed]

theorem settleCounts_frame (b : State) :
    (State.settleCounts b).rpu = b.rpu ∧ (State.settleCounts b).spu.inputs = b.spu.inputs ∧
    (State.settleCounts b).tst = b.tst ∧ (State.settleCounts b).pending = b.pending := by
  simp [State.settleCounts, evaluate_frame, windowTest_frame,
    repeat_keeps State.rpu (fun s => (takeMaturity_frame s).1), repeat_keeps State.rpu (fun s => (takeReRating_frame s).1),
    repeat_keeps State.spu (fun s => (takeMaturity_frame s).2.1), repeat_keeps State.spu (fun s => (takeReRating_frame s).2.1),
    repeat_keeps State.tst (fun s => (takeMaturity_frame s).2.2.1),
    repeat_keeps State.tst (fun s => (takeReRating_frame s).2.2.1),
    repeat_keeps State.pending (fun s => (takeMaturity_frame s).2.2.2.1),
    repeat_keeps State.pending (fun s => (takeReRating_frame s).2.2.2.1)]

/-- Of what a marker leaves owing, only what the engine's entry hands on, and the gauge ages, are still owed. -/
theorem settleCounts_handed (b : State) (hb : b.handed.boundary = false) :
    ∃ l c, (State.settleCounts b).handed =
      { ages := b.handed.ages, actions := l, curtails := c, ticked := b.handed.ticked } := by
  obtain ⟨l, c, e⟩ := evaluate_handed (State.windowTest (Nat.repeat State.takeMaturity b.handed.maturities.length
    (Nat.repeat State.takeReRating b.handed.reRatings.length b)))
  exact ⟨b.handed.actions ++ l, b.handed.curtails ++ c, e.trans (by
    simp [windowTest_frame, repeat_takeMaturity_handed, repeat_takeReRating_handed, hb])⟩

theorem settleEntries_frame (v : State) :
    (State.settleEntries v).rpu = v.rpu ∧ (State.settleEntries v).scu = v.scu ∧ (State.settleEntries v).spu = v.spu ∧
    (State.settleEntries v).tst = v.tst ∧ (State.settleEntries v).pending = v.pending ∧
    (State.settleEntries v).handed = { v.handed with actions := [], curtails := [] } := by
  simp [State.settleEntries, repeat_takeCurtail_handed, repeat_takeActions_handed,
    repeat_keeps State.rpu (fun s => (takeCurtail_frame s).1), repeat_keeps State.rpu (fun s => (takeActions_frame s).1),
    repeat_keeps State.scu (fun s => (takeCurtail_frame s).2.2.1),
    repeat_keeps State.scu (fun s => (takeActions_frame s).2.1),
    repeat_keeps State.spu (fun s => (takeCurtail_frame s).2.2.2.1),
    repeat_keeps State.spu (fun s => (takeActions_frame s).2.2.2.1),
    repeat_keeps State.tst (fun s => (takeCurtail_frame s).2.2.2.2.1),
    repeat_keeps State.tst (fun s => (takeActions_frame s).2.2.2.2.1),
    repeat_keeps State.pending (fun s => (takeCurtail_frame s).2.2.2.2.2.1),
    repeat_keeps State.pending (fun s => (takeActions_frame s).2.2.2.2.2.1)]

/-- R34: the increase of the gauge ages, when it is owed, and nothing owed after it. -/
theorem takeAges_eq (s : State) :
    State.takeAges s = { s with
      adu := { s.adu with gauges := (State.takeAges s).adu.gauges }, handed := { s.handed with ages := false } } := by
  unfold State.takeAges
  split
  · rfl
  · rename_i h
    have e : s.handed = { s.handed with ages := false } := by rw [← Bool.eq_false_of_not_eq_true h]
    rw [← e]

/-- R34: the gauges after the increase of their ages, when it is owed. -/
theorem takeAges_gauges (s : State) (n : Fin 8) :
    (State.takeAges s).adu.gauges[n] =
      if s.handed.ages then { s.adu.gauges[n] with age := min 65535 (s.adu.gauges[n].age + 1) }
      else s.adu.gauges[n] := by
  unfold State.takeAges
  split <;> simp [State.ageGauges, satAdd]

/-- What settling leaves alone; nothing is owed after it. -/
theorem settle_frame (s : State) :
    (State.settle s).rpu = s.rpu ∧ (State.settle s).spu.inputs = s.spu.inputs ∧ (State.settle s).tst = s.tst ∧
    (State.settle s).pending = s.pending ∧ (State.settle s).handed = { ticked := s.handed.ticked } := by
  obtain ⟨l, m, hb⟩ := takeBoundary_handed s
  obtain ⟨l', c, hv⟩ := settleCounts_handed (State.takeBoundary s) (by rw [hb])
  rw [settle_eq, takeAges_eq]
  simp [settleEntries_frame, settleCounts_frame, takeBoundary_frame, hv, hb]

/-- Log 8: settling takes every act still owed for the last marker, in the order of `Settled`. -/
theorem settled_settle (s : State) : Settled s (State.settle s) := by
  obtain ⟨l, m, hb⟩ := takeBoundary_handed s
  obtain ⟨l', c, hv⟩ := settleCounts_handed (State.takeBoundary s) (by rw [hb])
  have hw : (State.settleEntries (State.settleCounts (State.takeBoundary s))).handed =
      { ages := s.handed.ages, ticked := s.handed.ticked } := by
    simp [settleEntries_frame, hv, hb]
  refine ⟨State.takeBoundary s, State.settleCounts (State.takeBoundary s),
    State.settleEntries (State.settleCounts (State.takeBoundary s)), ⟨_, rfl, rfl⟩, ?_, ?_, fun n => ?_, ?_⟩
  · exact (runs_append _ _ _ _).mpr ⟨_, (runs_append _ _ _ _).mpr
      ⟨_, runs_replicate (fun _ => rfl) _ _, runs_replicate (fun _ => rfl) _ _⟩, _, rfl, _, rfl, rfl⟩
  · exact (runs_append _ _ _ _).mpr
      ⟨_, runs_replicate (fun _ => rfl) _ _, runs_replicate (fun _ => rfl) _ _⟩
  · rw [settle_eq, takeAges_gauges, hw]
  · conv_lhs => rw [settle_eq, takeAges_eq, ← settle_eq, hw]

/-- With nothing owed, settling changes nothing. -/
theorem settle_of_nothing_owed {s : State} {done : List TickPart} (h : s.handed = { ticked := done }) :
    State.settle s = s := by
  simp [State.settle, State.takeBoundary, State.windowTest, State.evaluate, State.takeAges, h, Nat.repeat]

end Sys2Proof.Machine

namespace Sys2Proof.Machine

open Safety

/-! ### What the other commands leave alone of the RPU -/

/-- A part of the state that every element of a list leaves alone is left alone by the whole list. -/
theorem foldl_keeps {α β : Type} {f : State → β → State} (p : State → α) (h : ∀ s b, p (f s b) = p s) (l : List β)
    (s : State) : p (l.foldl f s) = p s := by
  induction l generalizing s with
  | nil => rfl
  | cons b rest ih => exact (ih _).trans (h s b)

/-- 08 Table 8-2: what the readers of a panel input leave alone. -/
theorem handInput_frame (s : State) (i : PanelInput) (level : Bool) :
    (State.handInput s i level).rpu = s.rpu ∧ (State.handInput s i level).clu = s.clu ∧
    (State.handInput s i level).spu = s.spu ∧ (State.handInput s i level).mgu = s.mgu ∧
    (State.handInput s i level).tst = s.tst ∧ (State.handInput s i level).handed = s.handed ∧
    (State.handInput s i level).pending = s.pending := by
  cases i with
  | floodAlarm => cases level <;> simp [State.handInput, floodTest_frame]
  | maintEnable => simp [State.handInput]
  | trip u => cases level <;> simp [State.handInput, State.tripActive, State.tripInactive]

/-- R147: what an input's part of a tick leaves alone. -/
theorem tickPart_sample_frame (s : State) (i : PanelInput) :
    (State.tickPart s (.sample i)).rpu = s.rpu ∧ (State.tickPart s (.sample i)).tst = s.tst ∧
    (State.tickPart s (.sample i)).clu = s.clu ∧ (State.tickPart s (.sample i)).handed = s.handed ∧
    (State.tickPart s (.sample i)).pending = s.pending := by
  rcases tickPart_sample s i with ⟨-, e⟩ | ⟨-, -, e⟩ | ⟨-, -, -, e⟩ <;> rw [e]
  · simp
  · simp
  · split <;> simp [handInput_frame]

/-- R110: what a port that goes DOWN or absent drops reaches the counters alone. -/
theorem dropCounts_frame (s : State) (r : LinkPort) :
    (State.dropCounts s r).rpu = s.rpu ∧ (State.dropCounts s r).handed = s.handed ∧
    (State.dropCounts s r).pending = s.pending := by simp [State.dropCounts]

/-- R16: a tick's part touches the frame at ring-out for no count. -/
theorem tickPart_ringOut (s : State) (x : TickPart) : (State.tickPart s x).rpu.ringOut = s.rpu.ringOut := by
  have hr : ∀ y, (State.raise s y).rpu.ringOut = s.rpu.ringOut := by
    intro y
    cases y <;> simp only [State.raise, State.sampleInput] <;> split <;> simp
  unfold State.tickPart
  dsimp only
  split
  · rw [← hr x]
    cases x with
    | gap => simp [State.expire, State.ringLoss]
    | silence p => simp [State.expire, State.portDown, dropCounts_frame]
    | taken p => simp [State.expire, State.takenExpiry]
    | beacon p => simp [State.expire, State.beaconDue]
    | sample i =>
      simp only [State.expire, State.takeInput]
      split <;> simp [handInput_frame]
  · exact hr x

theorem takeAhead_ringOut (s : State) (x : TickPart) : (State.takeAhead s x).rpu.ringOut = s.rpu.ringOut := by
  rcases takeAhead_cases s x with ⟨-, e⟩ | ⟨-, e⟩ <;> rw [e]
  exact tickPart_ringOut s x

theorem tickAhead_ringOut (s : State) (x : TickPart) : (State.tickAhead s x).rpu.ringOut = s.rpu.ringOut := by
  unfold State.tickAhead
  split
  · exact takeAhead_ringOut s x
  · rfl

theorem driveInput_ringOut (s : State) (i : PanelInput) (level sampled : Bool) :
    (State.driveInput s i level sampled).rpu.ringOut = s.rpu.ringOut := by
  unfold State.driveInput
  dsimp only
  split
  · simp [takeAhead_ringOut]
  · simp

/-! #### The links -/

@[simp] theorem State.placeArrival_rpu (s : State) (e : Arrival) : (State.placeArrival s e).rpu = s.rpu := by
  unfold State.placeArrival
  split
  · rfl
  · split
    · rfl
    · split <;> simp

@[simp] theorem State.placeReply_rpu (s : State) (p : Port) (m : LinkMsg) : (State.placeReply s p m).rpu = s.rpu := by
  unfold State.placeReply
  dsimp only
  split <;> simp

@[simp] theorem State.takeTaken_rpu (s : State) (p : Port) (m : LinkMsg) : (State.takeTaken s p m).rpu = s.rpu := by
  unfold State.takeTaken
  dsimp only
  split <;> simp

@[simp] theorem State.setCurtail_rpu (s : State) (c d : Nat) : (State.setCurtail s c d).rpu = s.rpu := by
  unfold State.setCurtail
  split <;> simp

/-- R109: a message disposed of by its kind. -/
@[simp] theorem State.disposeMsg_rpu (s : State) (p : Port) (m : LinkMsg) : (State.disposeMsg s p m).rpu = s.rpu := by
  unfold State.disposeMsg
  repeat' split
  all_goals simp

@[simp] theorem State.validMsg_rpu (s : State) (p : Port) : (State.validMsg s p).rpu = s.rpu := by
  unfold State.validMsg
  dsimp only
  split <;> simp

@[simp] theorem State.miswiredMsg_rpu (s : State) (p : Port) : (State.miswiredMsg s p).rpu = s.rpu := by
  unfold State.miswiredMsg
  dsimp only
  split <;> simp

@[simp] theorem State.linkArrival_rpu (s : State) (p : Port) (m : LinkMsg) : (State.linkArrival s p m).rpu = s.rpu := by
  unfold State.linkArrival
  split
  · rfl
  · split
    · simp
    · split <;> simp

@[simp] theorem State.byteTimeout_rpu (s : State) (p : Port) (n : Nat) : (State.byteTimeout s p n).rpu = s.rpu := by
  unfold State.byteTimeout
  split <;> simp

@[simp] theorem State.transmit_rpu (s : State) (p : Port) : (State.transmit s p).rpu = s.rpu := by
  unfold State.transmit
  dsimp only
  split <;> simp

/-! #### Installs and completions -/

@[simp] theorem State.noticeState_rpu (s : State) (g : GateIx) (old new : GateState) :
    (State.noticeState s g old new).rpu = s.rpu := by
  unfold State.noticeState
  split <;> simp

@[simp] theorem State.installGate_rpu (s : State) (g : GateIx) : (State.installGate s g).rpu = s.rpu := by
  unfold State.installGate
  dsimp only
  split
  · simp
  · split <;> simp

@[simp] theorem State.fitPort_rpu (s : State) (p : Port) : (State.fitPort s p).rpu = s.rpu := by
  unfold State.fitPort
  dsimp only
  split <;> simp [dropCounts_frame]

@[simp] theorem State.endOp_rpu (s : State) (op : Operation) (done : Bool) : (State.endOp s op done).rpu = s.rpu := rfl

/-- R165: a block's part of a RELOAD's install. -/
@[simp] theorem State.takeReload_rpu (s : State) (x : InstallTaker) : (State.takeReload s x).rpu = s.rpu := by
  cases x with
  | adu => exact foldl_keeps State.rpu State.installGate_rpu _ s
  | scu => simp [State.takeReload, State.installStation, floodTest_frame]
  | sqe => simp [State.takeReload, State.restart, enter_frame]
  | clu => simp [State.takeReload, State.installLink]
  | mgu => rfl

@[simp] theorem State.completeStore_rpu (s : State) (ok : Bool) : (State.completeStore s ok).rpu = s.rpu := by
  unfold State.completeStore
  split
  · split <;> rfl
  · rfl

@[simp] theorem State.completeCommission_rpu (s : State) (ok : Bool) :
    (State.completeCommission s ok).rpu = s.rpu := by
  unfold State.completeCommission
  split
  · dsimp only
    split
    · split <;> rfl
    · rfl
  · rfl

@[simp] theorem State.completeReload_rpu (s : State) (order : List InstallTaker) :
    (State.completeReload s order).rpu = s.rpu := by
  unfold State.completeReload
  split
  · split
    · exact (foldl_keeps State.rpu State.takeReload_rpu _ _).trans (windowTest_frame s).1
    · rfl
  · rfl

@[simp] theorem State.firstReading_rpu (s : State) : (State.firstReading s).rpu = s.rpu := by
  have handed_on : ∀ u i, (State.handIfActive u i).rpu = u.rpu := by
    intro u i
    unfold State.handIfActive
    split <;> simp [handInput_frame]
  have read : ∀ u i, (State.readInput u i).rpu = u.rpu := fun _ _ => rfl
  exact (foldl_keeps State.rpu handed_on _ _).trans (foldl_keeps State.rpu read _ s)

/-- R166: the start-up load leaves the frame at ring-out as it stands. -/
theorem completeLoad_ringOut (s : State) : (State.completeLoad s).rpu.ringOut = s.rpu.ringOut := by
  unfold State.completeLoad
  split
  · rw [State.firstReading_rpu]
    dsimp only
    split <;> rfl
  · rfl

/-! #### The commands that bring no frame -/

open Laws in
/-- R6: a command that brings no ring frame leaves the frame at ring-out as it stands, or takes it away with a reset. -/
theorem ringOut_of_no_frame {c : Instr} {s t : State} (hc : Families.ringFrame c = none) (h : exec c s = .next t) :
    t.rpu.ringOut = s.rpu.ringOut ∨ t.rpu.ringOut = none := by
  have kept : ∀ {u : State}, Host.Outcome.next u = (.next t : Host.Outcome State Fault Refusal) →
      u.rpu.ringOut = s.rpu.ringOut → t.rpu.ringOut = s.rpu.ringOut ∨ t.rpu.ringOut = none := by
    intro u hu e
    cases hu
    exact .inl e
  cases c with
  | powerOn => cases h; exact .inr rfl
  | resetNAssert short =>
    cases h
    unfold State.assertReset
    split
    · exact .inr rfl
    · exact .inl rfl
  | resetNRelease => exact kept h rfl
  | startUpLoadComplete => exact kept h (completeLoad_ringOut s)
  | ringLoss => exact kept h (tickAhead_ringOut s _)
  | intervalBoundary => exact kept h (congrArg Rpu.ringOut (takeBoundary_frame s).1)
  | reRating => exact kept h (congrArg Rpu.ringOut (takeReRating_frame s).1)
  | arrivalMaturity => exact kept h (congrArg Rpu.ringOut (takeMaturity_frame s).1)
  | supervisionWindowExpiry => exact kept h (congrArg Rpu.ringOut (windowTest_frame s).1)
  | engineEvaluation => exact kept h (congrArg Rpu.ringOut (evaluate_frame s).1)
  | actionListApply => exact kept h (congrArg Rpu.ringOut (takeActions_frame s).1)
  | curtailUp => exact kept h (congrArg Rpu.ringOut (takeCurtail_frame s).1)
  | storeComplete ok => exact kept h (congrArg Rpu.ringOut (State.completeStore_rpu s ok))
  | reloadComplete order => exact kept h (congrArg Rpu.ringOut (State.completeReload_rpu s order))
  | commissionLockComplete ok => exact kept h (congrArg Rpu.ringOut (State.completeCommission_rpu s ok))
  | panelInputChange i level sampled => exact kept h (driveInput_ringOut s i level sampled)
  | linkTransmit p => exact kept h (congrArg Rpu.ringOut (State.transmit_rpu s p))
  | linkByteTimeout p n => exact kept h (congrArg Rpu.ringOut (State.byteTimeout_rpu s p n))
  | beaconDue p | silenceExpiry p | takenTimeout p => exact kept h (tickAhead_ringOut s _)
  | beacon p m | taken p m | release m | curtail m | wrongDirectionMessage p k m | badCheckMessage p m
  | miswiredMessage p m => exact kept h (congrArg Rpu.ringOut (State.linkArrival_rpu s _ _))
  | _ => cases hc

end Sys2Proof.Machine

namespace Sys2Proof.Machine

open Safety

/-! ### The frame of a COMMAND slot -/

@[simp] theorem gate_count (s : State) (c : Counter) (g : GateIx) : State.gate (State.count s c) g = State.gate s g := rfl

@[simp] theorem gate_countIf (s : State) (b : Bool) (c : Counter) (g : GateIx) :
    State.gate (State.countIf s b c) g = State.gate s g := by cases b <;> rfl

@[simp] theorem gate_notify (s : State) (n : Notice) (g : GateIx) :
    State.gate (State.notify s n) g = State.gate s g := rfl

@[simp] theorem gate_reportOwnership (s : State) (g : GateIx) :
    State.gate (State.reportOwnership s) g = State.gate s g := rfl

@[simp] theorem gate_addTravel (s : State) (k : GateIx) (d : Nat) (g : GateIx) :
    State.gate (State.addTravel s k d) g = State.gate s g := rfl

@[simp] theorem gate_noticeState (s : State) (k : GateIx) (old new : GateState) (g : GateIx) :
    State.gate (State.noticeState s k old new) g = State.gate s g := by
  unfold State.noticeState
  split <;> rfl

@[simp] theorem gate_emit (s : State) (f : Frame) (g : GateIx) : State.gate (State.emit s f) g = State.gate s g := rfl

/-- R68: a refusal keeps the gate's state and its admitted opening. -/
theorem gate_refuse (s : State) (g : GateIx) (cmd : Option DispatchCommand) (why : RefusalReason) :
    (State.gate (State.refuse s g cmd why) g).state = (State.gate s g).state ∧
    (State.gate (State.refuse s g cmd why) g).admitted = (State.gate s g).admitted := by
  cases cmd <;> simp [State.refuse]

/-- R63: a state and a frame: the gate's flow is counted, and the frame is a SETPOINT that names the gate and carries
its admitted opening. -/
def CommandsGate (g : GateIx) (p : State × Frame) : Prop :=
  GateState.counted (State.gate p.1 g).state = true ∧
    ∃ b tag flags, p.2 = setpoint g (State.gate p.1 g).admitted b tag flags

/-- R56, R63: an admission's frame carries the opening it has admitted. -/
theorem admitFrame_commands {s : State} {g : GateIx} (h : GateState.counted (State.gate s g).state = true)
    (x : Submission) (r : Option Word) : CommandsGate g (State.admitFrame s g x r) := by
  unfold CommandsGate State.admitFrame
  rw [gate_admit, if_pos rfl]
  exact ⟨h, _, _, _, rfl⟩

/-- R71: a trip closure's frame carries travel_min, to which it has closed the gate. -/
theorem caseTrip_commands {s : State} {g : GateIx} (h : GateState.counted (State.gate s g).state = true)
    (cmd : Option DispatchCommand) : CommandsGate g (State.caseTrip s g cmd) := by
  simp only [CommandsGate, State.caseTrip, gate_refuse, State.tripClosure, gate_addTravel, gate_setTally,
    gate_setGate_self, gate_reportOwnership]
  exact ⟨h, _, _, _, rfl⟩

/-- R73, R77: a gate that a dispatch command takes stays counted. -/
theorem dispatchTakes_counted {s : State} {g : GateIx} (h : GateState.counted (State.gate s g).state = true) :
    GateState.counted (State.gate (State.dispatchTakes s g) g).state = true := by
  have key : GateState.counted (if (State.gate s g).state = .stale then GateState.service else (State.gate s g).state) =
      true := by
    split
    · rfl
    · exact h
  unfold State.dispatchTakes
  dsimp only
  split <;> simpa using key

/-- R72: a gate given back by a trip keeps its state. -/
theorem releaseTrip_state (s : State) (g : GateIx) :
    (State.gate (State.releaseTrip s g) g).state = (State.gate s g).state := by
  unfold State.releaseTrip
  dsimp only
  split
  · simp only [gate_reportOwnership, gate_setGate_self, afterTrip]
    split
    · split <;> rfl
    · rfl
  · rfl

/-- R78: a gate whose hold count rises stays counted. -/
theorem countHold_counted {s : State} {g : GateIx} (h : GateState.counted (State.gate s g).state = true) :
    GateState.counted (State.gate (State.countHold s g) g).state = true := by
  simp only [State.countHold, gate_noticeState, gate_setGate_self]
  split
  · rfl
  · exact h

/-- R74: an engine target is admitted. -/
theorem caseEngine_commands {s : State} {g : GateIx} (h : GateState.counted (State.gate s g).state = true)
    (cmd : Option DispatchCommand) : CommandsGate g (State.caseEngine s g cmd) :=
  admitFrame_commands (by simpa [gate_refuse] using h) _ _

/-- R76, R81: a hold frame carries the admitted opening as it stands. -/
theorem caseBlocked_commands {s : State} {g : GateIx} (h : GateState.counted (State.gate s g).state = true)
    (cmd : Option DispatchCommand) : CommandsGate g (State.caseBlocked s g cmd) := by
  simp only [CommandsGate, State.caseBlocked, gate_refuse]
  exact ⟨h, _, _, _, rfl⟩

/-- R78, R79: a silent slot holds the gate or drives it to its safe opening. -/
theorem caseSilent_commands {s : State} {g : GateIx} (h : GateState.counted (State.gate s g).state = true) :
    CommandsGate g (State.caseSilent s g) := by
  have hc := countHold_counted h
  unfold State.caseSilent
  dsimp only
  split
  · exact admitFrame_commands (by simpa using hc) _ _
  · simp only [CommandsGate, gate_count, gate_setGate_self]
    exact ⟨hc, _, _, _, rfl⟩

/-- R67: cases 3 to 7 of the selection command the gate. -/
theorem laterCases_commands {s : State} {g : GateIx} (h : GateState.counted (State.gate s g).state = true)
    (cmd : Option DispatchCommand) : CommandsGate g (State.laterCases s g cmd) := by
  unfold State.laterCases
  cases cmd with
  | some c =>
    dsimp only
    split
    · exact admitFrame_commands (dispatchTakes_counted h) _ _
    · split
      · exact caseEngine_commands h _
      · split
        · exact caseBlocked_commands h _
        · exact admitFrame_commands (dispatchTakes_counted h) _ _
  | none =>
    dsimp only
    split
    · exact caseEngine_commands h _
    · split
      · exact caseBlocked_commands h _
      · exact caseSilent_commands h

/-- R63, R67, R69: the selection commands a gate whose flow is counted, and leaves a blank IDLE frame for any other. -/
theorem select_frame (s : State) (g : GateIx) (cmd : Option DispatchCommand) :
    CommandsGate g (State.select s g cmd) ∨
    (GateState.counted (State.gate (State.select s g cmd).1 g).state = false ∧ (State.select s g cmd).2 = blankIdle) := by
  unfold State.select
  dsimp only
  split
  · rename_i h
    exact .inr ⟨by simpa [State.caseUncounted, gate_refuse] using h, rfl⟩
  · rename_i h
    have hc : GateState.counted (State.gate s g).state = true := Bool.eq_true_of_not_eq_false h
    split
    · exact .inl (caseTrip_commands hc _)
    · exact .inl (laterCases_commands (by rw [releaseTrip_state]; exact hc) _)

/-- A SETPOINT's id is the number of the gate it names. -/
@[simp] theorem setpoint_id (g : GateIx) (a : Nat) (b : Word) (tag : Byte) (flags : BitVec 4) :
    (setpoint g a b tag flags).id.toNat = g.val := by
  simp [setpoint]
  omega

/-- R8, R63: the frame that leaves a COMMAND slot is the ADU's. -/
theorem commandSlot_aduFrame (s : State) (g : GateIx) (f : Frame) : AduFrameLeft g (State.commandSlot s g f) := by
  refine ⟨_, rfl, ?_⟩
  simp only [State.commandSlot, gate_emit]
  rcases select_frame (State.countIf s (misroutedFor g f) .misrouted) g (dispatchCommand g f) with
    ⟨hc, b, tag, flags, e⟩ | ⟨hc, e⟩
  · refine ⟨fun _ => ?_, fun hn => absurd (hc.symm.trans hn) (by decide)⟩
    rw [e]
    exact ⟨good_goodFrame _ _, rfl, setpoint_id .., rfl⟩
  · exact ⟨fun hn => absurd (hc.symm.trans hn) (by decide), fun _ => e⟩

end Sys2Proof.Machine

namespace Sys2Proof.Machine

open Safety

/-! ### Which frames leave at ring-out (R6, R7) -/

/-- R7: what leaves for a frame in a place that is no COMMAND slot and whose owner does not answer it. -/
def passedFrame (f : Frame) : Frame := if f.kind = kindSetpoint then blankIdle else f

/-- R7: a frame passed: a good SETPOINT counts MISROUTED. -/
theorem passFrame_eq (s : State) (f : Frame) :
    State.passFrame s f =
      State.emit (State.countIf s (Frame.good f && f.kind == kindSetpoint) .misrouted) (passedFrame f) := by
  unfold State.passFrame passedFrame
  split
  · rename_i h
    simp [h]
  · rename_i h
    have hk : (f.kind == kindSetpoint) = false := by simpa using h
    rw [hk, Bool.and_false, countIf_false]

/-- R7: a frame that is passed is no SETPOINT. -/
theorem passedFrame_kind (f : Frame) : (passedFrame f).kind ≠ kindSetpoint := by
  unfold passedFrame
  split
  · decide
  · assumption

/-- R150: every request is answered with a MGMT_REPLY. -/
theorem manage_reply_kind (s : State) (f : Frame) : (State.manage s f).2.kind = kindMgmtReply := by
  unfold State.manage
  split <;> rfl

/-- R8 to R13: outside the COMMAND slot of a gate no SETPOINT leaves. -/
theorem slotFrame_noSetpoint {s : State} {x : SlotTable} {p : Nat} {f o : Frame}
    (h : SlotTable.role x p = .command → boundGate (SlotTable.entry x p) = none)
    (ho : (State.slotFrame s x p f).rpu.ringOut = some o) : o.kind ≠ kindSetpoint := by
  have passed : ∀ u : State, (State.passFrame u f).rpu.ringOut = some o → o.kind ≠ kindSetpoint := by
    intro u hu
    rw [passFrame_eq] at hu
    cases hu
    exact passedFrame_kind f
  unfold State.slotFrame at ho
  cases hr : SlotTable.role x p with
  | command =>
    rw [hr, h hr] at ho
    cases ho
    decide
  | telemetry => rw [hr] at ho; exact passed _ ho
  | management =>
    rw [hr] at ho
    unfold State.managementSlot at ho
    dsimp only at ho
    split at ho
    · cases ho
      exact (by decide : kindMgmtReply ≠ kindSetpoint)
    · split at ho
      · cases ho
        rw [manage_reply_kind]
        decide
      · exact passed _ ho
  | notice =>
    rw [hr] at ho
    unfold State.noticeSlot at ho
    dsimp only at ho
    split at ho
    · split at ho
      · cases ho
        exact (by decide : kindNotice ≠ kindSetpoint)
      · exact passed _ ho
    · exact passed _ ho
  | heartbeat => rw [hr] at ho; exact passed _ ho
  | unused => rw [hr] at ho; exact passed _ ho

@[simp] theorem State.takeAges_rpu (s : State) : (State.takeAges s).rpu = s.rpu := by
  unfold State.takeAges
  split <;> rfl

/-- R8, R63: the place of a SETPOINT that leaves for a frame taken at ring-in: the COMMAND slot of a gate. -/
theorem ringArrival_setpoint {s : State} {f o : Frame} {late : Bool}
    (ho : (State.ringArrival s f late).rpu.ringOut = some o) (hk : o.kind = kindSetpoint) :
    ∃ x g, s.rpu.state ≠ .load ∧ s.rpu.active = some x ∧ s.rpu.slotPos < x.count ∧
      SlotTable.role x s.rpu.slotPos = .command ∧ boundGate (SlotTable.entry x s.rpu.slotPos) = some g ∧
      ∃ u, State.ringArrival s f late = State.commandSlot u g f := by
  unfold State.ringArrival at ho ⊢
  split at ho
  · cases ho
    exact absurd hk (passedFrame_kind f)
  · rename_i hl
    rw [if_neg hl]
    split at ho
    · rename_i hm
      cases ho
      have : kindCycle = kindSetpoint := by
        rw [← hk]
        simp only [Frame.isMarker, Bool.and_eq_true, beq_iff_eq] at hm
        exact hm.2.symm
      exact absurd this (by decide)
    · rename_i hm
      rw [if_neg hm]
      simp only [State.countIf_rpu, State.takeAges_rpu] at ho ⊢
      cases ha : s.rpu.active with
      | none =>
        rw [ha] at ho
        dsimp only at ho
        rw [passFrame_eq] at ho
        cases ho
        exact absurd hk (passedFrame_kind f)
      | some x =>
        rw [ha] at ho
        unfold State.runFrame at ho ⊢
        dsimp only at ho ⊢
        simp only [State.countIf_rpu, State.takeAges_rpu] at ho ⊢
        split at ho
        · rename_i hp
          by_cases hr : SlotTable.role x s.rpu.slotPos = .command
          · cases hg : boundGate (SlotTable.entry x s.rpu.slotPos) with
            | none => exact absurd hk (slotFrame_noSetpoint (fun _ => hg) ho)
            | some g =>
              refine ⟨x, g, hl, rfl, hp, hr, hg, ?_⟩
              rw [if_pos hp]
              simp only [State.slotFrame, hr, hg]
              exact ⟨_, rfl⟩
          · exact absurd hk (slotFrame_noSetpoint (fun e => absurd e hr) ho)
        · rw [passFrame_eq] at ho
          cases ho
          exact absurd hk (passedFrame_kind f)

open Laws in
/-- Log 5: a command that brings a ring frame is the arrival of that frame. -/
theorem exec_ringFrame {c : Instr} {f : Frame} (h : Families.ringFrame c = some f) (s : State) :
    ∃ late, exec c s = .next (State.ringArrival s f late) := by
  cases c with
  | cycleMarker m late => cases h; exact ⟨late, rfl⟩
  | powerOn | resetNAssert _ | resetNRelease | startUpLoadComplete | ringLoss | intervalBoundary | reRating
  | arrivalMaturity | supervisionWindowExpiry | engineEvaluation | actionListApply | curtailUp | storeComplete _
  | reloadComplete _ | commissionLockComplete _ | panelInputChange _ _ _ | beaconDue _ | linkTransmit _
  | linkByteTimeout _ _ | beacon _ _ | taken _ _ | release _ | curtail _ | wrongDirectionMessage _ _ _
  | silenceExpiry _ | takenTimeout _ | badCheckMessage _ _ | miswiredMessage _ _ => cases h
  | _ => cases h; exact ⟨false, rfl⟩

end Sys2Proof.Machine

namespace Sys2Proof.GateRing

open Machine Safety Laws

/-- Settles O27: a command that brings no frame leaves ring-out alone, and of the frames only one in the COMMAND slot
of a gate is answered with a SETPOINT, which is the ADU's. -/
theorem onlyCommandSlotsSendSetpoints : Obligations.OnlyCommandSlotsSendSetpoints := by
  unfold Obligations.OnlyCommandSlotsSendSetpoints
  intro c s t o hx ho hk
  cases hc : Families.ringFrame c with
  | none =>
    rcases ringOut_of_no_frame hc hx with e | e
    · exact .inl (e ▸ ho)
    · rw [e] at ho; cases ho
  | some f =>
    obtain ⟨late, e⟩ := exec_ringFrame hc s
    have ht : t = State.ringArrival s f late := by
      rw [e] at hx
      exact (Host.Outcome.next.inj hx).symm
    subst ht
    obtain ⟨x, g, hl, ha, hp, hr, hg, u, hu⟩ := ringArrival_setpoint ho hk
    obtain ⟨o', ho', hcount, hblank⟩ := commandSlot_aduFrame u g f
    rw [← hu] at ho' hcount hblank
    have ho'' : o' = o := Option.some.inj (ho'.symm.trans ho)
    subst ho''
    cases hcc : GateState.counted (State.gate (State.ringArrival s f late) g).state with
    | true =>
      obtain ⟨hgood, -, hid, hv⟩ := hcount hcc
      exact .inr ⟨x, g, hl, ha, hp, hr, hg, hgood, hid, hv⟩
    | false =>
      rw [hblank hcc] at hk
      exact absurd hk (by decide)

end Sys2Proof.GateRing

namespace Sys2Proof.Machine

open Safety

/-! ### The machine after reset (R19, R21, R34) -/

@[simp] theorem gate_reset (g : GateIx) : State.gate State.reset g = {} := by
  simp [State.gate, State.reset]

@[simp] theorem gauge_reset (n : Nat) (h : n < 8) : State.reset.adu.gauges[n] = {} := by
  simp [State.reset]

/-- R171: counters at 0 are within their maxima. -/
theorem counters_zero : CountersOk {} := by
  refine ⟨fun i => ?_, fun g => ?_, fun g => ?_⟩ <;> simp

/-- R19, R149: a power-on or a reset takes every block to its reset value. -/
theorem powerOn_atReset (s : State) (asserted : Bool) : AtReset asserted s (State.powerOn s asserted) := by
  have himg : (State.cutImage s).words = s.tst.image.words ∧ (State.cutImage s).lock = s.tst.image.lock ∧
      (State.cutImage s).commission = s.tst.image.commission := by
    unfold State.cutImage
    split <;> exact ⟨rfl, rfl, rfl⟩
  exact ⟨rfl, rfl, rfl, rfl, rfl, rfl, rfl, rfl, rfl, rfl, rfl, rfl, fun i => by simp [State.powerOn], rfl, rfl, rfl,
    himg.1, himg.2.1, himg.2.2, rfl⟩

/-- R165: a RELOAD, or no operation, cut short leaves the image as it was. -/
theorem cutImage_kept {s : State} (h : s.mgu.op = none ∨ s.mgu.op = some .reload) :
    State.cutImage s = s.tst.image := by
  rcases h with h | h <;> simp [State.cutImage, h]

/-- R161, R164: an operation cut short makes no checksum good. -/
theorem cutImage_bad {s : State} (h : s.tst.image.good = false) : (State.cutImage s).good = false := by
  unfold State.cutImage
  split <;> simp [h]

/-! ### The gap count (R16) -/

/-- R16, R19: the gap count is not kept in LOAD. -/
theorem raise_gap_load {s : State} (h : s.rpu.state = .load) : State.raise s .gap = s := by
  simp [State.raise, h]

/-- R16: the gap count rises in every other state. -/
theorem raise_gap {s : State} (h : s.rpu.state ≠ .load) :
    State.raise s .gap = { s with rpu := { s.rpu with gap := min 65535 (s.rpu.gap + 1) } } := by
  simp [State.raise, h, satAdd]

/-- R16: when the gap count is at its limit. -/
theorem expired_gap (s : State) : State.expired s .gap = true ↔
    (s.rpu.state = .run ∨ s.rpu.state = .sync) ∧ ringLossLimit s.table ≤ s.rpu.gap := by
  simp [State.expired]

/-! ### Frames that take no slot -/

/-- R7: a frame passed, its effect on the RPU written out. -/
theorem emit_eq (s : State) (f : Frame) : State.emit s f = { s with rpu := { s.rpu with ringOut := some f } } := rfl

end Sys2Proof.Machine

namespace Sys2Proof.GateRing

open Machine Safety

/-- Settles O3: the reset values of the state's fields, read off. -/
theorem resetLeaves : Obligations.ResetLeaves := by
  unfold Obligations.ResetLeaves
  refine ⟨rfl, rfl, rfl, rfl, fun g => ?_, fun n => ?_, rfl, rfl, rfl, rfl, rfl, rfl, rfl, rfl, rfl, rfl, rfl, rfl, rfl,
    rfl, rfl, rfl, rfl, rfl, rfl, rfl, rfl, rfl, rfl, rfl, rfl, rfl, rfl, rfl⟩
  · simp only [gate_reset, and_self]
  · simp

/-- Settles O4: empty queues, zero counters and fresh records meet every invariant. -/
theorem resetIsSound : Obligations.ResetIsSound where
  notices := ⟨by decide, fun g => by simp [State.reset], by decide⟩
  counters := counters_zero
  bank := counters_zero
  arrivals := ⟨by decide, by decide⟩
  tally := ⟨by simp [countedFlow, State.reset, GateState.counted], fun g => by simp [State.reset]⟩
  bounds := (boundsOk_iff _).mpr rfl
  ownership := by simp [OwnershipOk, State.reset, allGates, State.gate]
  stores := reset_stores
  cycle := by simp [CycleOk, State.reset]
  lock := by simp [LockOk, State.reset]
  gates := fun g => by simp [State.reset, GateOk]
  ports := ⟨by simp [State.reset, PortOk], by simp [State.reset, PortOk]⟩
  supervision := ⟨by decide, by decide⟩
  mode := ⟨by decide, by decide, by decide⟩

/-- Settles O13: POWER_ON and a full RESET_N are `powerOn`; a short one is `powerOn` or nothing, by the free value. -/
theorem resetTakesEveryBlock : Obligations.ResetTakesEveryBlock := by
  unfold Obligations.ResetTakesEveryBlock
  refine fun s => ⟨⟨State.powerOn s false, State.powerOn s true, rfl, rfl, powerOn_atReset s false,
    powerOn_atReset s true, rfl, cutImage_kept, fun h => ?_, cutImage_bad⟩, ⟨_, rfl, ?_⟩, rfl⟩
  · simp [State.powerOn, State.cutImage, h]
  · unfold State.assertReset
    split
    · exact .inl (powerOn_atReset s false)
    · exact .inr rfl

/-- Settles O19: RING_LOSS is the gap count's part of the tick, and that part acts at the limit alone. -/
theorem ringLossAbandonsCycle : Obligations.RingLossAbandonsCycle := by
  unfold Obligations.RingLossAbandonsCycle
  refine fun s => ⟨fun hst hnot hlim => ?_, fun h => ?_⟩
  · have hload : s.rpu.state ≠ .load := by rcases hst with e | e <;> rw [e] <;> decide
    have hexp : State.expired (State.raise s .gap) .gap = true := by
      rw [raise_gap hload, expired_gap]
      exact ⟨hst, hlim⟩
    rcases tickAhead_cases s .gap with ⟨h | h, -⟩ | ⟨-, -, e⟩
    · exact absurd h hnot
    · rw [hexp] at h; cases h
    · refine ⟨_, _, congrArg Host.Outcome.next e, ?_, rfl, ?_⟩
      · rw [raise_gap hload]; rfl
      · rw [raise_gap hload]; rfl
  · rcases tickAhead_cases s .gap with ⟨-, e⟩ | ⟨hnot, hexp, -⟩
    · exact congrArg Host.Outcome.next e
    · exfalso
      by_cases hload : s.rpu.state = .load
      · rw [raise_gap_load hload, expired_gap, hload] at hexp
        exact absurd hexp.1 (by decide)
      · rw [raise_gap hload, expired_gap] at hexp
        obtain ⟨hst, hlim⟩ := hexp
        rcases h with h | h | h | h
        · exact hload h
        · rw [h] at hst; exact absurd hst (by decide)
        · exact hnot h
        · exact absurd hlim (Nat.not_le.mpr h)

/-- Settles O44: one lemma for each of the three places without a slot. -/
theorem framesWithoutSlot : Obligations.FramesWithoutSlot := by
  unfold Obligations.FramesWithoutSlot
  rintro s f o u ho rfl
  have ho' : o = passedFrame f := ho
  subst ho'
  refine ⟨fun hl => ?_, fun hl ha hages hm => ?_, fun x hst ha hp hages hm => ?_⟩
  · exact congrArg _ (ringArrival_load hl f false)
  · refine congrArg _ ((ringArrival_outside hl ha hages hm false).trans ?_)
    rw [passFrame_eq, emit_eq, State.countIf_rpu, State.countIf_rpu]
  · refine congrArg _ ((ringArrival_excess hst ha hp hages hm false).trans ?_)
    rw [passFrame_eq]
    cases Frame.good f && f.kind == kindSetpoint <;> cases Frame.good f <;> rfl

end Sys2Proof.GateRing

namespace Sys2Proof.Machine

open Safety

/-! ### Telemetry frames (R9, R22 to R27) -/

/-- R3: the state while a frame is disposed of: it has taken its position. -/
def State.positionTaken (s : State) : State := { s with rpu := { s.rpu with slotPos := s.rpu.slotPos + 1 } }

/-- R6: a frame that leaves for the one that has taken its position, with nothing else changed. -/
theorem emit_positionTaken (s : State) (f : Frame) : State.emit (State.positionTaken s) f = tookFrame s f := rfl

/-- R9: a POSITION report of gate `g` in a TELEMETRY slot that admits it. -/
theorem ringArrival_position {s : State} {b : Nat} (h : AtTelemetry s b) {g : GateIx} (hb : b = 0xFF ∨ b = g.val)
    {f : FrameFields} (hid : f.id.toNat = g.val) (late : Bool) :
    State.ringArrival s (goodFrame kindPosition f) late =
      State.emit (State.takePosition (State.positionTaken s) g f.valueA f.valueB) (goodFrame kindPosition f) := by
  rw [ringArrival_telemetry h (good_goodFrame _ _) (by decide : kindPosition ≠ kindCycle)
    (by decide : kindPosition ≠ kindSetpoint)]
  have hlt : f.id.toNat < 24 := hid ▸ g.isLt
  have hg : (⟨f.id.toNat, hlt⟩ : GateIx) = g := Fin.ext hid
  have hadm : admitsGate b f.id.toNat = true := by
    rcases hb with e | e <;> simp [admitsGate, e, hid]
  simp only [State.tap, good_goodFrame, goodFrame_kind, goodFrame_id, goodFrame_valueA, goodFrame_valueB, hlt, hadm, hg,
    if_true, dif_pos, Bool.true_eq_false, if_false]
  rfl

/-- R9: a STAGE report of gauge `n` in a TELEMETRY slot that admits it. -/
theorem ringArrival_stage {s : State} {b : Nat} (h : AtTelemetry s b) {n : GaugeIx} (hb : b = 0xFF ∨ b = 0x80 + n.val)
    {f : FrameFields} (hid : f.id.toNat = n.val) (late : Bool) :
    State.ringArrival s (goodFrame kindStage f) late =
      State.emit (State.takeStage (State.positionTaken s) n f.valueA (f.flags.getLsbD 0)) (goodFrame kindStage f) := by
  rw [ringArrival_telemetry h (good_goodFrame _ _) (by decide : kindStage ≠ kindCycle)
    (by decide : kindStage ≠ kindSetpoint)]
  have hlt : f.id.toNat < 8 := hid ▸ n.isLt
  have hg : (⟨f.id.toNat, hlt⟩ : GaugeIx) = n := Fin.ext hid
  have hadm : admitsGauge b f.id.toNat = true := by
    rcases hb with e | e <;> simp [admitsGauge, e, hid]
  have hk : kindStage ≠ kindPosition := by decide
  simp only [State.tap, good_goodFrame, goodFrame_kind, goodFrame_id, goodFrame_valueA, goodFrame_flags, hlt, hadm, hg,
    if_true, dif_pos, Bool.true_eq_false, if_false, if_neg hk]
  rfl

/-- R23: the drive status by value B. -/
theorem driveStatusOf_eq (b : Word) :
    driveStatusOf b = if b = 0 then .ok else if b = 2 then .localControl else .fault := by
  have h0 : b = 0 ↔ b.toNat = 0 := by rw [← BitVec.toNat_inj]; rfl
  have h2 : b = 2 ↔ b.toNat = 2 := by rw [← BitVec.toNat_inj]; rfl
  simp only [driveStatusOf, h0, h2]
  split
  · rename_i h; simp [h]
  · rename_i h; simp [h]
  · rename_i ha hb
    rw [if_neg ha, if_neg hb]

/-- R23: a POSITION report of a gate that is not VACANT writes the measured opening and the drive status, and then acts
by the gate's state. -/
theorem takePosition_eq {s : State} {g : GateIx} (h : (State.gate s g).state ≠ .vacant) (a b : Word) :
    State.takePosition s g a b = State.actOnReport
      (State.setGate s g { State.gate s g with measured := some (min 10000 a.toNat), drive := some (driveStatusOf b) })
      g (min 10000 a.toNat) (driveStatusOf b) := by
  cases hs : (State.gate s g).state <;> simp_all [State.takePosition]

/-- R22, R24 to R27: the record of a gate re-tracked and moved to another state. -/
theorem gate_retrackTo (s : State) (g : GateIx) (m : Nat) (st : GateState) (fault : Bool) :
    State.gate (State.retrackTo s g m st fault) g =
      { (if st = .service then { State.gate s g with state := .service } else Gate.leaveService (State.gate s g) st) with
        admitted := m, flow := flowAt s.table g (State.head s) m, lastCycle := State.cycle s, lastDir := .none,
        causeFault := fault, causeOut := false } := by
  cases st <;> simp [State.retrackTo, State.retrack, Gate.leaveService]

/-- R32: a GATE_STATE notice, when the state changed. -/
theorem noticeState_ncu (s : State) (g : GateIx) (old new : GateState) :
    (State.noticeState s g old new).ncu = if new = old then s.ncu else Ncu.notify s.ncu (.gateState g new) := by
  unfold State.noticeState
  by_cases h : old = new
  · simp [h]
  · rw [if_neg h, if_neg (Ne.symm h)]; rfl

/-- R32: what a GATE_STATE notice leaves alone. -/
theorem noticeState_frame (s : State) (g : GateIx) (old new : GateState) :
    (State.noticeState s g old new).adu = s.adu ∧ (State.noticeState s g old new).scu = s.scu ∧
    (State.noticeState s g old new).clu = s.clu ∧ (State.noticeState s g old new).sqe = s.sqe ∧
    (State.noticeState s g old new).spu = s.spu ∧ (State.noticeState s g old new).mgu = s.mgu ∧
    (State.noticeState s g old new).tst = s.tst ∧ (State.noticeState s g old new).handed = s.handed ∧
    (State.noticeState s g old new).freeCount = s.freeCount ∧ (State.noticeState s g old new).pending = s.pending := by
  unfold State.noticeState
  split <;> simp

/-- R22, R39: a gate re-tracked: the tally, the notice, and what stands as it was. -/
theorem retrackTo_frame (s : State) (g : GateIx) (m : Nat) (st : GateState) (fault : Bool) :
    (State.retrackTo s g m st fault).adu.tally =
      (if GateState.counted (State.gate s g).state then
        s.adu.tally + flowAt s.table g (State.head s) m - (State.gate s g).flow
      else s.adu.tally + flowAt s.table g (State.head s) m) ∧
    (State.retrackTo s g m st fault).ncu =
      (if st = (State.gate s g).state then s.ncu else Ncu.notify s.ncu (.gateState g st)) ∧
    (State.retrackTo s g m st fault).rpu = s.rpu ∧ OtherGatesKept g s (State.retrackTo s g m st fault) ∧
    (State.retrackTo s g m st fault).sqe = s.sqe ∧ CommandFrameKept s (State.retrackTo s g m st fault) := by
  unfold State.retrackTo
  dsimp only
  refine ⟨?_, ?_, ?_, fun k hk => ?_, ?_, ?_⟩
  · simp [noticeState_frame, State.retrack, tallyChange]
  · simp [noticeState_ncu, State.retrack]
  · simp [State.retrack]
  · rw [gate_noticeState, gate_setGate_ne _ _ hk, State.retrack, gate_setTally, gate_setGate_ne _ _ hk]
  · simp [noticeState_frame, State.retrack]
  · simp [CommandFrameKept, noticeState_frame, State.retrack]

end Sys2Proof.Machine

namespace Sys2Proof.GateRing

open Machine Safety

/-- R22 to R27: a report that re-tracks its gate, seen from the state the frame came to: the record, the tally, the
notice, and what stands as it was. -/
theorem position_retracks {s : State} {b : Nat} (h : AtTelemetry s b) {g : GateIx} (hb : b = 0xFF ∨ b = g.val)
    {f : FrameFields} (hid : f.id.toNat = g.val) {m : Nat} {d : DriveStatus} {st : GateState} {fault : Bool} {r : Gate}
    (hm : m = min 10000 f.valueA.toNat) (hv : (State.gate s g).state ≠ .vacant) (hd : d = driveStatusOf f.valueB)
    (hr : r = { State.gate s g with measured := some m, drive := some d })
    (hact : ∀ u : State, State.gate u g = r → State.actOnReport u g m d = State.retrackTo u g m st fault) :
    ∃ t, exec (.position f) s = .next t ∧
      State.gate t g =
        { (if st = .service then { r with state := .service } else Gate.leaveService r st) with
          admitted := m, flow := flowAt s.tst.table g (State.head s) m, lastCycle := State.cycle s, lastDir := .none,
          causeFault := fault, causeOut := false } ∧
      t.adu.tally = (if GateState.counted (State.gate s g).state then
          s.adu.tally + flowAt s.tst.table g (State.head s) m - (State.gate s g).flow
        else s.adu.tally + flowAt s.tst.table g (State.head s) m) ∧
      t.ncu = (if st = (State.gate s g).state then s.ncu else Ncu.notify s.ncu (.gateState g st)) ∧
      OtherGatesKept g s t ∧ t.rpu = (tookFrame s (goodFrame kindPosition f)).rpu ∧ t.sqe = s.sqe ∧
      CommandFrameKept s t := by
  have hs : State.setGate (State.positionTaken s) g r = State.positionTaken (State.setGate s g r) := rfl
  have hg : State.gate (State.positionTaken (State.setGate s g r)) g = r := gate_setGate_self s g r
  have ht : exec (.position f) s = .next (State.emit
      (State.retrackTo (State.positionTaken (State.setGate s g r)) g m st fault) (goodFrame kindPosition f)) := by
    refine congrArg Host.Outcome.next ((ringArrival_position h hb hid false).trans ?_)
    rw [takePosition_eq (by exact hv), ← hm, ← hd, ← hact _ hg, ← hs, hr]
    rfl
  obtain ⟨htally, hncu, hrpu, hothers, hsqe, hkept⟩ :=
    retrackTo_frame (State.positionTaken (State.setGate s g r)) g m st fault
  have hrs : r.state = (State.gate s g).state := by rw [hr]
  have hrf : r.flow = (State.gate s g).flow := by rw [hr]
  refine ⟨_, ht, ?_, ?_, ?_, fun k hk => ?_, ?_, hsqe, hkept⟩
  · rw [gate_emit, gate_retrackTo, hg]; rfl
  · refine htally.trans ?_
    rw [hg, hrs, hrf]; rfl
  · refine hncu.trans ?_
    rw [hg, hrs]; rfl
  · exact (hothers k hk).trans (gate_setGate_ne s r hk)
  · simp only [State.emit, hrpu]; rfl

/-- Settles O37: in ACQUIRE and LOCAL every report re-tracks, to the state that its drive status names. -/
theorem positionReTracks : Obligations.PositionReTracks := by
  unfold Obligations.PositionReTracks
  intro s f g b m q d st h hb hid hst hm hq hd hst'
  have hd' : d = driveStatusOf f.valueB := hd.trans (driveStatusOf_eq _).symm
  have hst'' : st = DriveStatus.gateState d := by
    rw [hst', hd]
    split
    · rfl
    · split <;> rfl
  have hv : (State.gate s g).state ≠ .vacant := by rcases hst with e | e <;> rw [e] <;> decide
  have hstale : (State.gate s g).state ≠ .stale := by rcases hst with e | e <;> rw [e] <;> decide
  have hservice : (State.gate s g).state ≠ .service := by rcases hst with e | e <;> rw [e] <;> decide
  obtain ⟨t, ht, hgate, htally, hncu, hothers, hrpu, hsqe, hkept⟩ :=
    position_retracks (st := st) (fault := d == .fault) h hb hid hm hv hd' rfl (by
      intro u hu
      have hu' : (State.gate u g).state = (State.gate s g).state := by rw [hu]
      rcases hst with e | e <;> simp only [State.actOnReport, hu', e, hst''])
  refine ⟨t, ht, ?_, fun hok => ?_, ?_, hncu, hothers, hrpu, hsqe, hkept⟩
  · rw [hgate, hq]
    by_cases hs : st = .service
    · simp [hs]
    · simp [hs, Gate.leaveService, hstale]
  · rw [hgate]
    by_cases hs : st = .service
    · simpa [hs] using hok.2.1 ⟨hservice, hstale⟩
    · simp [hs, Gate.leaveService]
  · rw [htally, hq]
    rcases hst with e | e <;> simp [e, GateState.counted]

end Sys2Proof.GateRing

namespace Sys2Proof.GateRing

open Machine Safety

/-- R9, R23: a report that changes nothing but its gate's record and the notices, whose outcome `t` is known from the
state with the measured opening and the drive status written. -/
theorem position_reports {s t : State} {b : Nat} (h : AtTelemetry s b) {g : GateIx} (hb : b = 0xFF ∨ b = g.val)
    {f : FrameFields} (hid : f.id.toNat = g.val) (hv : (State.gate s g).state ≠ .vacant) {d : DriveStatus}
    (hd : driveStatusOf f.valueB = d)
    (ht : State.actOnReport (State.setGate (State.positionTaken s) g
      { State.gate s g with measured := some (min 10000 f.valueA.toNat), drive := some d }) g
      (min 10000 f.valueA.toNat) d = State.positionTaken t) :
    exec (.position f) s = .next (tookFrame t (goodFrame kindPosition f)) := by
  refine congrArg Host.Outcome.next ((ringArrival_position h hb hid false).trans ?_)
  rw [takePosition_eq (by exact hv), hd, ← emit_positionTaken, ← ht]
  rfl

/-- R23: value B 0 reports OK. -/
theorem driveStatusOf_ok {b : Word} (h : b = 0) : driveStatusOf b = .ok := by subst h; rfl

/-- R23: value B 2 reports LOCAL. -/
theorem driveStatusOf_local {b : Word} (h : b = 2) : driveStatusOf b = .localControl := by subst h; rfl

/-- R23: any other value B reports FAULT. -/
theorem driveStatusOf_fault {b : Word} (h : b ≠ 0) (h' : b ≠ 2) : driveStatusOf b = .fault := by
  rw [driveStatusOf_eq, if_neg h, if_neg h']

/-- R25: what a report does to a gate in SERVICE or STALE. -/
theorem actOnReport_served {u : State} {g : GateIx}
    (h : (State.gate u g).state = .service ∨ (State.gate u g).state = .stale) (m : Nat) :
    State.actOnReport u g m .ok = State.deviationCheck u g m ∧
    State.actOnReport u g m .fault = State.block u g true false ∧
    State.actOnReport u g m .localControl = State.retrackTo u g m .localControl false := by
  rcases h with e | e <;> simp only [State.actOnReport, e, and_self]

/-- R27: what a report does to a gate in BLOCKED. -/
theorem actOnReport_blocked {u : State} {g : GateIx} (h : (State.gate u g).state = .blocked) (m : Nat) :
    State.actOnReport u g m .fault = State.setGate u g { State.gate u g with causeFault := true } ∧
    ∀ d, d ≠ .fault → State.actOnReport u g m d =
      if (State.gate u g).causeOut then State.setGate u g { State.gate u g with causeFault := false }
      else State.retrackTo u g m (DriveStatus.gateState d) false := by
  refine ⟨by simp only [State.actOnReport, h], fun d hd => ?_⟩
  cases d with
  | fault => exact absurd rfl hd
  | ok | localControl => simp only [State.actOnReport, h]

/-- Settles O38: the deviation check, the block and the re-tracking of a gate in SERVICE or STALE. -/
theorem positionOfServedGate : Obligations.PositionOfServedGate := by
  unfold Obligations.PositionOfServedGate
  rintro s f g b m r h hb hid rfl hst rfl
  have hv : (State.gate s g).state ≠ .vacant := by rcases hst with e | e <;> rw [e] <;> decide
  have hnb : (State.gate s g).state ≠ .blocked := by rcases hst with e | e <;> rw [e] <;> decide
  have hnl : (State.gate s g).state ≠ .localControl := by rcases hst with e | e <;> rw [e] <;> decide
  refine ⟨fun hB hdev => ?_, fun hB hdev htime hflag => ?_, fun hB hdev hor => ?_, fun hB hB' => ?_, fun hB => ?_⟩
  · refine position_reports h hb hid hv (driveStatusOf_ok hB) ?_
    rw [(actOnReport_served (by rw [gate_setGate_self]; exact hst) _).1]
    simp only [State.deviationCheck, gate_setGate_self, setGate_setGate]
    rw [if_neg (by exact Nat.not_lt.mpr hdev)]
    rfl
  · refine position_reports h hb hid hv (driveStatusOf_ok hB) ?_
    rw [(actOnReport_served (by rw [gate_setGate_self]; exact hst) _).1]
    simp only [State.deviationCheck, gate_setGate_self, setGate_setGate]
    rw [if_pos (by exact hdev), if_pos (by exact ⟨htime, hflag⟩)]
    rfl
  · refine position_reports h hb hid hv (driveStatusOf_ok hB) ?_
    rw [(actOnReport_served (by rw [gate_setGate_self]; exact hst) _).1]
    simp only [State.deviationCheck, gate_setGate_self, setGate_setGate]
    rw [if_pos (by exact hdev), if_neg]
    · rfl
    · rintro ⟨htime, hflag⟩
      rcases hor with hlt | hset
      · exact absurd htime (Nat.not_le.mpr hlt)
      · exact absurd (hflag.symm.trans hset) (by decide)
  · refine position_reports h hb hid hv (driveStatusOf_fault hB hB') ?_
    rw [(actOnReport_served (by rw [gate_setGate_self]; exact hst) _).2.1]
    simp only [State.block, gate_setGate_self, setGate_setGate, State.noticeState, Gate.leaveService]
    rw [if_neg hnb]
    rfl
  · obtain ⟨t, ht, hgate, htally, hncu, hothers, hrpu, hsqe, hkept⟩ :=
      position_retracks (st := .localControl) (fault := false) h hb hid rfl hv (driveStatusOf_local hB).symm rfl (by
        intro u hu
        exact (actOnReport_served (by rw [hu]; exact hst) _).2.2)
    refine ⟨t, _, ht, rfl, ?_, ?_, ?_, hrpu, hothers, hsqe, hkept⟩
    · rw [hgate]; rfl
    · rw [htally]
      rcases hst with e | e <;> simp [e, GateState.counted]
    · rw [hncu, if_neg (Ne.symm hnl)]

/-- Settles O39: in BLOCKED the causes decide whether a report re-tracks, and a VACANT gate takes none. -/
theorem positionOfBlockedOrVacantGate : Obligations.PositionOfBlockedOrVacantGate := by
  unfold Obligations.PositionOfBlockedOrVacantGate
  rintro s f g b m r h hb hid rfl rfl
  refine ⟨fun hst => ?_, fun hst hB hB' => ?_, fun hst hB hout => ?_, fun hst hB hout => ?_⟩
  · refine congrArg Host.Outcome.next ((ringArrival_position h hb hid false).trans ?_)
    have hst' : (State.gate (State.positionTaken s) g).state = .vacant := hst
    simp only [State.takePosition, hst', emit_positionTaken]
  · refine position_reports h hb hid (by rw [hst]; decide) (driveStatusOf_fault hB hB') ?_
    rw [(actOnReport_blocked (by rw [gate_setGate_self]; exact hst) _).1]
    simp only [gate_setGate_self, setGate_setGate]
    rfl
  · have hd : driveStatusOf f.valueB = if f.valueB = 0 then .ok else .localControl := by
      rcases hB with e | e <;> rw [e] <;> rfl
    have hd' : (if f.valueB = 0 then DriveStatus.ok else .localControl) ≠ .fault := by split <;> decide
    refine position_reports h hb hid (by rw [hst]; decide) hd ?_
    rw [(actOnReport_blocked (by rw [gate_setGate_self]; exact hst) _).2 _ hd']
    rcases hB with e | e <;> simp only [e, gate_setGate_self, setGate_setGate, hout] <;> rfl
  · obtain ⟨t, ht, hgate, htally, hncu, hothers, hrpu, hsqe, hkept⟩ :=
      position_retracks (st := if f.valueB = 0 then .service else .localControl) (fault := false)
        (d := if f.valueB = 0 then .ok else .localControl) h hb hid rfl (by rw [hst]; decide)
        (by rcases hB with e | e <;> rw [e] <;> rfl) rfl (by
        intro u hu
        rw [(actOnReport_blocked (by rw [hu]; exact hst) _).2 _ (by split <;> decide), hu]
        rcases hB with e | e <;> simp only [e, hout] <;> rfl)
    have hns : (if f.valueB = 0 then GateState.service else .localControl) ≠ (State.gate s g).state := by
      rw [hst]
      split <;> decide
    refine ⟨t, _, ht, rfl, ?_, fun hok => ?_, ?_, ?_, hrpu, hothers, hsqe, hkept⟩
    · rw [hgate]
      rcases hB with e | e <;> simp [e, Gate.leaveService, hst]
    · rw [hgate]
      rcases hB with e | e
      · simpa [e, hst] using hok.2.1
      · simp [e, Gate.leaveService]
    · rw [htally, hst]; rfl
    · rw [hncu, if_neg hns]

end Sys2Proof.GateRing

namespace Sys2Proof.Machine

open Safety

/-! ### Stage reports and the entry test (R33, R98) -/

@[simp] theorem gauge_of_lt (s : State) (n : GaugeIx) : State.gauge s n.val = s.adu.gauges[n] := by
  simp [State.gauge]

/-- R34: a gauge just reported is fresh, at a stale limit that is not 0. -/
theorem freshLevel_reported (s : State) (n : GaugeIx) (level bad : Nat) (h : 0 < staleLimit s.tst.table) :
    State.freshLevel (State.setGauge s n { level := some level, age := 0, bad := bad }) n.val = some level := by
  have hg : State.gauge (State.setGauge s n { level := some level, age := 0, bad := bad }) n.val =
      { level := some level, age := 0, bad := bad } := by simp [State.setGauge]
  have hf : gaugeFresh (State.setGauge s n { level := some level, age := 0, bad := bad }).table
      { level := some level, age := 0, bad := bad } = true := by
    simp only [gaugeFresh, Option.isSome_some, Bool.true_and, decide_eq_true_eq]
    exact h
  rw [State.freshLevel, hg, if_pos hf]

/-- R98: the cause of an entry to FLOOD after a good report of the headwater gauge. -/
theorem floodCause_reported (s : State) (n : GaugeIx) (level bad : Nat) (h : 0 < staleLimit s.tst.table)
    (hn : headwaterGauge s.tst.table = n.val) :
    State.floodCause (State.setGauge s n { level := some level, age := 0, bad := bad }) =
      if State.inputActive s .floodAlarm then some .alarm
      else if s.scu.declared then some .declare
      else if floodStage s.tst.table ≤ level then some .stage else none := by
  unfold State.floodCause
  have e : headwaterGauge (State.setGauge s n { level := some level, age := 0, bad := bad }).table = n.val := hn
  rw [e, freshLevel_reported s n level bad h]
  rfl

/-- R98: an entry test with no cause. -/
theorem floodTest_none {s : State} (h : State.floodCause s = none) : State.floodTest s = s := by
  simp only [State.floodTest, h]

/-- R98: an entry test taken in FLOOD with a cause restarts the exit dwell count. -/
theorem floodTest_flood {s : State} {c : ModeCause} (h : State.floodCause s = some c) (hm : s.scu.mode = .flood) :
    State.floodTest s = { s with scu := { s.scu with exitDwell := 0 } } := by
  simp only [State.floodTest, h, hm]

/-- R98, R100: an entry test taken in NORMAL with a cause enters FLOOD. -/
theorem floodTest_normal {s : State} {c : ModeCause} (h : State.floodCause s = some c) (hm : s.scu.mode = .normal) :
    State.floodTest s = State.recomputeBounds
      (State.notify { s with scu := { s.scu with mode := .flood, exitDwell := 0 } } (.mode .flood c)) := by
  simp only [State.floodTest, h, hm]

/-! ### The NOTICE slot (R12, R167 to R170) -/

/-- R168: replacing a CLAMP in place, in a queue cut at its entry. -/
theorem replaceClamp_append {g : GateIx} {before : List Notice} (h : ∀ d, Notice.clamp g d ∉ before) (c old : Clamp)
    (behind : List Notice) :
    replaceClamp g c (before ++ .clamp g old :: behind) = before ++ .clamp g c :: behind := by
  induction before with
  | nil => simp [replaceClamp, Notice.isClampOf]
  | cons n rest ih =>
    have hn : Notice.isClampOf g n = false := by
      cases n with
      | clamp k d =>
        have : k ≠ g := fun e => h d (by simp [e])
        simp [Notice.isClampOf, this]
      | _ => rfl
    have hr : ∀ d, Notice.clamp g d ∉ rest := fun d hd => h d (List.mem_cons_of_mem _ hd)
    simp [replaceClamp, hn, ih hr]

/-- R168: whether a queue holds a CLAMP of a gate. -/
theorem any_isClampOf (g : GateIx) (l : List Notice) :
    l.any (Notice.isClampOf g) = true ↔ ∃ d, Notice.clamp g d ∈ l := by
  rw [List.any_eq_true]
  constructor
  · rintro ⟨n, hn, hc⟩
    cases n with
    | clamp k d =>
      have : k = g := by simpa [Notice.isClampOf] using hc
      exact ⟨d, this ▸ hn⟩
    | _ => cases hc
  · rintro ⟨d, hd⟩
    exact ⟨_, hd, by simp [Notice.isClampOf]⟩

/-- R12: the NOTICE slot with a notice queued. -/
theorem ringArrival_notice {s : State} {x : SlotTable} (h : AtSlot s x .notice) {n : Notice} {rest : List Notice}
    (hq : s.ncu.queue = n :: rest) (f : FrameFields) :
    State.ringArrival s (goodFrame kindIdle f) false =
      tookFrame { s with ncu := Ncu.emit s.ncu } (Notice.frame n) := by
  rw [ringArrival_slot h (isMarker_goodFrame _ _)]
  simp [State.slotFrame, h.2.2.2.1, State.noticeSlot, hq]
  rfl

/-- R12: the NOTICE slot with the queue empty. -/
theorem ringArrival_notice_empty {s : State} {x : SlotTable} (h : AtSlot s x .notice) (hq : s.ncu.queue = [])
    (f : FrameFields) :
    State.ringArrival s (goodFrame kindIdle f) false = tookFrame s (goodFrame kindIdle f) := by
  rw [ringArrival_slot h (isMarker_goodFrame _ _)]
  simp [State.slotFrame, h.2.2.2.1, State.noticeSlot, hq, State.passFrame]
  rfl

end Sys2Proof.Machine

namespace Sys2Proof.GateRing

open Machine Safety

/-- R33: the state after a good report of gauge `n`, taken from its slot, before the entry test. -/
def stageTaken (s : Machine.State) (n : GaugeIx) (level : Nat) : Machine.State :=
  State.setGauge (State.positionTaken s) n { s.adu.gauges[n] with level := some level, age := 0 }

/-- R33, R98: a good report of the headwater gauge is an entry test, whose cause is the first part that holds. -/
theorem stage_headwater {s : Machine.State} {b : Nat} (h : AtTelemetry s b) {n : GaugeIx}
    (hb : b = 0xFF ∨ b = 0x80 + n.val) {f : FrameFields} (hid : f.id.toNat = n.val) (hgood : f.flags.getLsbD 0 = false)
    (hn : headwaterGauge s.tst.table = n.val) (hstale : 0 < staleLimit s.tst.table) :
    exec (.stage f) s =
      .next (State.emit (State.floodTest (stageTaken s n f.valueA.toNat)) (goodFrame kindStage f)) ∧
    State.floodCause (stageTaken s n f.valueA.toNat) =
      if State.inputActive s .floodAlarm then some .alarm
      else if s.scu.declared then some .declare
      else if floodStage s.tst.table ≤ f.valueA.toNat then some .stage else none := by
  refine ⟨congrArg Host.Outcome.next ((ringArrival_stage h hb hid false).trans ?_), ?_⟩
  · simp only [State.takeStage, gauge_of_lt]
    rw [hgood, if_neg (by decide), if_pos (by exact hn)]
    rfl
  · exact floodCause_reported (State.positionTaken s) n f.valueA.toNat _ hstale hn

/-- Settles O40: the gauge record, and the entry test of a good report of the headwater gauge by its cases. -/
theorem stageReportIsTaken : Obligations.StageReportIsTaken := by
  unfold Obligations.StageReportIsTaken
  intro s f n b h hb hid
  have hx := ringArrival_stage h hb hid false
  simp only [State.takeStage, gauge_of_lt] at hx
  refine ⟨fun hbad => ?_, fun hgood hn => ?_, fun hgood hn hm hdecl halarm hstale => ?_, fun hgood hn hm hstale => ?_⟩
  · refine congrArg Host.Outcome.next (hx.trans ?_)
    rw [if_pos hbad]
    rfl
  · refine congrArg Host.Outcome.next (hx.trans ?_)
    rw [hgood, if_neg (by decide), if_neg (by exact hn)]
    rfl
  · obtain ⟨hx, hc⟩ := stage_headwater h hb hid hgood hn hstale
    rw [halarm, hdecl, if_neg (by decide), if_neg (by decide)] at hc
    by_cases hf : floodStage s.tst.table ≤ f.valueA.toNat
    · rw [floodTest_normal (hc.trans (if_pos hf)) hm] at hx
      exact ⟨_, hx, rfl, fun _ => ⟨rfl, rfl, rfl, bounds_recompute _, rfl, rfl⟩,
        fun hlt => absurd hf (Nat.not_le.mpr hlt), rfl, rfl, rfl, rfl, rfl, rfl⟩
    · rw [floodTest_none (hc.trans (if_neg hf))] at hx
      exact ⟨_, hx, rfl, fun hle => absurd hle hf, fun _ => ⟨rfl, rfl⟩, rfl, rfl, rfl, rfl, rfl, rfl⟩
  · obtain ⟨hx, hc⟩ := stage_headwater h hb hid hgood hn hstale
    refine hx.trans (congrArg Host.Outcome.next ?_)
    by_cases hany : State.inputActive s .floodAlarm = true ∨ s.scu.declared = true ∨
        floodStage s.tst.table ≤ f.valueA.toNat
    · have hcause : ∃ c, State.floodCause (stageTaken s n f.valueA.toNat) = some c := by
        rw [hc]
        split
        · exact ⟨_, rfl⟩
        · split
          · exact ⟨_, rfl⟩
          · rename_i ha hd
            rw [if_pos (by simpa [ha, hd] using hany)]
            exact ⟨_, rfl⟩
      obtain ⟨c, hcause⟩ := hcause
      rw [floodTest_flood hcause hm, if_pos hany]
      rfl
    · have hnone : State.floodCause (stageTaken s n f.valueA.toNat) = none := by
        simp only [not_or] at hany
        rw [hc, if_neg hany.1, if_neg hany.2.1, if_neg hany.2.2]
      rw [floodTest_none hnone, if_neg hany]
      rfl

/-- Settles O43: the three outcomes of a notice handed on, each kind's frame, and the NOTICE slot by its queue. -/
theorem noticeLeavesInItsSlot : Obligations.NoticeLeavesInItsSlot := by
  unfold Obligations.NoticeLeavesInItsSlot
  refine ⟨fun u n hn => ?_, fun u g c old before behind hq hb => ?_, fun g c => ?_, fun g st => ?_, fun g => rfl,
    fun m c => ?_, fun l e c => ?_, fun p c => ?_, fun n ended => rfl, fun regained => rfl, fun ms => rfl,
    fun op done => ?_, rfl, fun n => rfl, fun code a b tag flags => good_goodFrame _ _, fun s x f h => ?_⟩
  · rcases notify_cases u n with ⟨g, c, rfl, hany, -⟩ | ⟨-, hlt, e⟩ | ⟨hle, e⟩
    · obtain ⟨d, hd⟩ := (any_isClampOf g u.queue).mp hany
      exact absurd hd (hn g c d rfl)
    · exact ⟨fun _ => e, fun hle => absurd hlt (Nat.not_lt.mpr hle)⟩
    · exact ⟨fun hlt => absurd hlt (Nat.not_lt.mpr hle), fun _ => e⟩
  · have hany : u.queue.any (Notice.isClampOf g) = true :=
      (any_isClampOf g _).mpr ⟨old, by rw [hq]; simp⟩
    simp only [Ncu.notify]
    rw [if_pos hany, hq, replaceClamp_append hb]
  · obtain ⟨reason, binding, requested, admitted⟩ := c
    cases reason <;> cases binding with
    | none => simp [Notice.frame, Notice.fields, noticeFrame, noticeFields, bindingCode, ClampReason.code]
    | some t =>
      cases t <;>
        simp [Notice.frame, Notice.fields, noticeFrame, noticeFields, bindingCode, ClampReason.code, Term.code]
  · cases st <;> rfl
  · cases m <;> cases c <;> rfl
  · cases c <;> rfl
  · cases p <;> cases c <;> rfl
  · cases op <;> rfl
  · refine ⟨fun n rest hq hl => ?_, fun n rest hq hl => ?_, fun hq => ?_⟩
    · refine congrArg Host.Outcome.next ((ringArrival_notice h hq f).trans ?_)
      simp [Ncu.emit, hq, hl]
    · refine congrArg Host.Outcome.next ((ringArrival_notice h hq f).trans ?_)
      simp [Ncu.emit, hq, hl]
    · exact congrArg Host.Outcome.next (ringArrival_notice_empty h hq f)

end Sys2Proof.GateRing

namespace Sys2Proof.Machine

open Safety

/-! ### The station counters under the selection (R61, R68, R171) -/

@[simp] theorem counter_notify (s : State) (n : Notice) (c : Counter) :
    State.counter (State.notify s n) c = State.counter s c := by
  simp [State.counter, State.notify]

@[simp] theorem counter_setGate (s : State) (g : GateIx) (r : Gate) (c : Counter) :
    State.counter (State.setGate s g r) c = State.counter s c := rfl

@[simp] theorem counter_setTally (s : State) (n : Nat) (c : Counter) :
    State.counter (State.setTally s n) c = State.counter s c := rfl

@[simp] theorem counter_addTravel (s : State) (g : GateIx) (d : Nat) (c : Counter) :
    State.counter (State.addTravel s g d) c = State.counter s c := rfl

@[simp] theorem counter_addReversal (s : State) (g : GateIx) (b : Bool) (c : Counter) :
    State.counter (State.addReversal s g b) c = State.counter s c := by cases b <;> rfl

@[simp] theorem counter_reportOwnership (s : State) (c : Counter) :
    State.counter (State.reportOwnership s) c = State.counter s c := rfl

@[simp] theorem counter_noticeState (s : State) (g : GateIx) (old new : GateState) (c : Counter) :
    State.counter (State.noticeState s g old new) c = State.counter s c := by
  unfold State.noticeState
  split <;> simp

@[simp] theorem counter_emit (s : State) (f : Frame) (c : Counter) :
    State.counter (State.emit s f) c = State.counter s c := rfl

theorem counter_countIf_ne (s : State) (b : Bool) {c d : Counter} (h : d ≠ c) :
    State.counter (State.countIf s b c) d = State.counter s d := by
  cases b
  · rfl
  · exact counter_count_ne s h

/-- R61, R79: the station counters that the selection raises for a slot without a usable command. -/
def selectionCounters : List Counter := [.admitted, .clampRate, .clampTravel, .clampCeiling, .clampFloor, .holdFills]

/-- R61: an admission raises none but the counters of admissions. -/
theorem counter_admission {c : Counter} (h : c ∉ selectionCounters) (s : State) (g : GateIx) (x : Submission) :
    State.counter (State.admission s g x) c = State.counter s c := by
  simp only [selectionCounters, List.mem_cons, List.not_mem_nil, or_false, not_or] at h
  obtain ⟨h1, h2, h3, h4, h5, -⟩ := h
  unfold State.admission
  dsimp only
  split <;> simp [State.countAdmission, counter_countIf_ne, counter_count_ne, h1, h2, h3, h4, h5]

/-- R78, R79: the counters of a slot without a usable command. -/
theorem counter_caseSilent {c : Counter} (h : c ∉ selectionCounters) (s : State) (g : GateIx) :
    State.counter (State.caseSilent s g).1 c = State.counter s c := by
  have hf : c ≠ .holdFills := fun e => h (by rw [e]; decide)
  unfold State.caseSilent
  dsimp only
  split
  · simp only [State.admitFrame, counter_admission h, counter_setGate, State.countHold, counter_noticeState]
  · simp only [counter_count_ne _ hf, counter_setGate, State.countHold, counter_noticeState]

/-- R67: with no dispatch command the selection raises no other station counter. -/
theorem counter_select_none {c : Counter} (h : c ∉ selectionCounters) (s : State) (g : GateIx) :
    State.counter (State.select s g none).1 c = State.counter s c := by
  have hu : State.usable s none = none := by simp [State.usable]
  unfold State.select
  rw [hu]
  dsimp only
  split
  · rfl
  · split
    · simp [State.caseTrip, State.refuse, State.tripClosure]
    · have hr : State.counter (State.releaseTrip s g) c = State.counter s c := by
        unfold State.releaseTrip
        dsimp only
        split <;> simp
      rw [← hr]
      unfold State.laterCases
      dsimp only
      split
      · simp [State.caseEngine, State.admitFrame, State.refuse, counter_admission h]
      · split
        · rfl
        · exact counter_caseSilent h _ g

/-! ### Frames that their slot's owner does not take (R7, R9 to R13) -/

theorem admitsGate_iff (binding id : Nat) : admitsGate binding id = true ↔ binding = 0xFF ∨ binding = id := by
  simp [admitsGate]

theorem admitsGauge_iff (binding id : Nat) : admitsGauge binding id = true ↔ binding = 0xFF ∨ binding = 0x80 + id := by
  simp [admitsGauge]

/-- Whether the owner of a slot with a role and a binding takes or answers a frame. -/
def Taken (role : Role) (binding : Nat) (f : Frame) : Prop :=
  match role with
  | .command => True
  | .telemetry => Frame.good f = true ∧
      (f.kind = kindPosition ∧ f.id.toNat < 24 ∧ admitsGate binding f.id.toNat = true ∨
        f.kind = kindStage ∧ f.id.toNat < 8 ∧ admitsGauge binding f.id.toNat = true)
  | .management => Frame.good f = false ∨ f.kind = kindMgmtReq
  | .notice => Frame.good f = true ∧ f.kind = kindIdle
  | .heartbeat => Frame.good f = true ∧ f.kind = kindHeartbeat
  | .unused => False

/-- R9: a frame that a TELEMETRY slot's owner does not take changes nothing. -/
theorem tap_of_not_taken {binding : Nat} {f : Frame} (h : ¬ Taken .telemetry binding f) (s : State) :
    State.tap s binding f = s := by
  simp only [Taken, not_and, not_or] at h
  unfold State.tap
  split
  · rfl
  · rename_i hg
    obtain ⟨hp, hs⟩ := h (Bool.eq_true_of_not_eq_false hg)
    split
    · rename_i hk
      split
      · rename_i hlt
        rw [if_neg (hp hk hlt)]
      · rfl
    · split
      · rename_i hk
        split
        · rename_i hlt
          rw [if_neg (hs hk hlt)]
        · rfl
      · rfl

/-- R7, R9 to R13: a frame that its slot's owner does not take is passed. -/
theorem slotFrame_of_not_taken {x : SlotTable} {p : Nat} {f : Frame}
    (h : ¬ Taken (SlotTable.role x p) (entryBinding (SlotTable.entry x p)) f) (s : State) :
    State.slotFrame s x p f = State.passFrame s f := by
  unfold State.slotFrame
  cases hr : SlotTable.role x p with
  | command => rw [hr] at h; exact absurd trivial h
  | telemetry => rw [hr] at h; simp only [tap_of_not_taken h]
  | management =>
    simp only [hr, Taken, not_or] at h
    simp only [State.managementSlot]
    rw [if_neg h.1, if_neg h.2]
  | notice =>
    simp only [hr, Taken] at h
    simp only [State.noticeSlot]
    split
    · rw [if_neg h]
    · rfl
  | heartbeat =>
    simp only [hr, Taken] at h
    simp only [State.heartbeatSlot]
    rw [if_neg h]
  | unused => rfl

/-- R1, R3, R7: what becomes of a frame that is no marker, in a slot whose owner does not take it. -/
theorem ringArrival_not_taken {s : State} {x : SlotTable} {role : Role} (h : AtSlot s x role) {f : Frame}
    (hm : Frame.isMarker f = false) (ht : ¬ Taken role (entryBinding (SlotTable.entry x s.rpu.slotPos)) f) (late : Bool) :
    State.ringArrival s f late = tookFrame
      (State.countIf (State.countIf s (!Frame.good f) .badCheck) (Frame.good f && f.kind == kindSetpoint) .misrouted)
      (passedFrame f) := by
  rw [ringArrival_slot h hm, slotFrame_of_not_taken (by rw [h.2.2.2.1]; exact ht), passFrame_eq]
  cases Frame.good f && f.kind == kindSetpoint <;> cases Frame.good f <;> rfl

/-- A good frame that is neither a marker nor a SETPOINT passes unchanged where its slot's owner does not take it. -/
theorem ringArrival_passed {s : State} {x : SlotTable} {role : Role} (h : AtSlot s x role) {f : Frame}
    (hg : Frame.good f = true) (hc : f.kind ≠ kindCycle) (hk : f.kind ≠ kindSetpoint)
    (ht : ¬ Taken role (entryBinding (SlotTable.entry x s.rpu.slotPos)) f) (late : Bool) :
    State.ringArrival s f late = tookFrame s f := by
  have hm : Frame.isMarker f = false := by
    rw [Frame.isMarker, beq_eq_false_iff_ne.mpr hc, Bool.and_false]
  have hp : passedFrame f = f := if_neg hk
  rw [ringArrival_not_taken h hm ht, hg, hp, beq_eq_false_iff_ne.mpr hk]
  rfl

/-- R11: a bad-check frame in the MANAGEMENT slot draws a NAK_CHECK reply. -/
theorem ringArrival_nakCheck {s : State} {x : SlotTable} (h : AtSlot s x .management) {f : Frame}
    (hg : Frame.good f = false) (late : Bool) :
    State.ringArrival s f late = tookFrame (State.count s .badCheck) (nakCheck f) := by
  have hm : Frame.isMarker f = false := by rw [Frame.isMarker, hg, Bool.false_and]
  rw [ringArrival_slot h hm]
  simp only [State.slotFrame, h.2.2.2.1, State.managementSlot, hg, if_true]
  rfl

/-- 11 Table 11-7: a binding that is a gate's number names that gate. -/
theorem boundGate_of_val {e : Word} {g : GateIx} (h : entryBinding e = g.val) : boundGate e = some g := by
  simp [boundGate, h]

end Sys2Proof.Machine

namespace Sys2Proof.GateRing

open Machine Safety

/-- R8: a frame that is no command for gate `g`, in its COMMAND slot: the ADU's frame leaves, and beside BAD_CHECK and
MISROUTED no counter rises but those of the selection. -/
theorem commandSlot_noCommand {s : Machine.State} {g : GateIx} (h : AtCommand s g) {f : Frame}
    (hm : Frame.isMarker f = false) (hc : dispatchCommand g f = none) (late : Bool) :
    AduFrameLeft g (State.ringArrival s f late) ∧
    ∀ c, c ∉ selectionCounters →
      State.counter (State.ringArrival s f late) c = State.counter (slotCounts s g f) c := by
  rw [ringArrival_command h hm]
  refine ⟨commandSlot_aduFrame _ _ _, fun c hsel => ?_⟩
  simp only [State.commandSlot, hc, counter_emit, counter_select_none hsel, slotCounts]
  cases misroutedFor g f <;> rfl

/-- Settles O45: the frames of other slots by whether their slot's owner takes them, and the COMMAND slot by the ADU's
frame. -/
theorem framesInOtherSlots : Obligations.FramesInOtherSlots := by
  unfold Obligations.FramesInOtherSlots
  rintro s x role b h rfl
  have atCommand : ∀ g : GateIx, role = .command → entryBinding (SlotTable.entry x s.rpu.slotPos) = g.val →
      AtCommand s g := fun g hr hb => ⟨x, hr ▸ h, boundGate_of_val hb⟩
  refine ⟨fun f hr => ?_, fun f g hr hb hid => ?_, fun f g hr hb hbad => ?_, fun f o g c hr hb ho hc => ?_,
    fun f hbad hr => ?_, fun f hbad hr hr' => ?_, fun f hr hnot => ?_, fun f hr hnot => ?_, fun f hr hr' => ?_,
    fun f hr hr' => ?_, fun f hgood hcyc hset hnot => ?_⟩
  · refine congrArg Host.Outcome.next ((ringArrival_not_taken h (isMarker_goodFrame _ _) ?_ false).trans ?_)
    · cases role <;> simp_all [Taken]
    · simp only [good_goodFrame, goodFrame_kind]
      rfl
  · obtain ⟨hadu, hcount⟩ := commandSlot_noCommand (f := goodFrame kindSetpoint f) (atCommand g hr hb)
      (isMarker_goodFrame _ _) (by simp [dispatchCommand, hid]) false
    have hmis : slotCounts s g (goodFrame kindSetpoint f) = State.count s .misrouted := by
      have hne : (f.id.toNat != g.val) = true := bne_iff_ne.mpr hid
      simp [slotCounts, misroutedFor, hne]
    refine ⟨_, rfl, hadu, ?_, ?_⟩
    · rw [hcount .misrouted (by decide), hmis, counter_count_self]
    · rw [hcount .refused (by decide), hmis, counter_count_ne s (by decide)]
  · obtain ⟨hadu, hcount⟩ := commandSlot_noCommand (f := f) (atCommand g hr hb)
      (by rw [Frame.isMarker, hbad, Bool.false_and]) (by simp [dispatchCommand, hbad]) false
    have hbc : slotCounts s g f = State.count s .badCheck := by
      simp [slotCounts, misroutedFor, hbad]
    refine ⟨_, rfl, hadu, ?_, ?_, ?_⟩
    · rw [hcount .badCheck (by decide), hbc, counter_count_self]
    · rw [hcount .misrouted (by decide), hbc, counter_count_ne s (by decide)]
    · rw [hcount .refused (by decide), hbc, counter_count_ne s (by decide)]
  · have left : ∀ f', Frame.isMarker f' = false → AduFrameLeft g (State.ringArrival s f' false) := by
      intro f' hf'
      rw [ringArrival_command (atCommand g hr hb) hf']
      exact commandSlot_aduFrame _ _ _
    simp only [List.mem_cons, List.not_mem_nil, or_false] at hc
    rcases hc with rfl | rfl | rfl | rfl | rfl | rfl
    · exact ⟨_, rfl, left _ (isMarker_goodFrame _ _)⟩
    · exact ⟨_, rfl, left _ (isMarker_goodFrame _ _)⟩
    · exact ⟨_, rfl, left _ (isMarker_goodFrame _ _)⟩
    · exact ⟨_, rfl, left _ (isMarker_goodFrame _ _)⟩
    · exact ⟨_, rfl, left _ ho⟩
    · exact ⟨_, rfl, left _ ho⟩
  · subst hr
    exact congrArg Host.Outcome.next (ringArrival_nakCheck h hbad false)
  · refine congrArg Host.Outcome.next
      ((ringArrival_not_taken h (by rw [Frame.isMarker, hbad, Bool.false_and]) ?_ false).trans ?_)
    · cases role <;> simp_all [Taken]
    · rw [hbad]
      rfl
  · refine congrArg Host.Outcome.next (ringArrival_passed h (good_goodFrame _ _) (by decide : kindPosition ≠ kindCycle)
      (by decide : kindPosition ≠ kindSetpoint) ?_ false)
    cases role with
    | telemetry =>
      rintro ⟨-, ⟨-, hlt, hadm⟩ | ⟨hk, -⟩⟩
      · rw [goodFrame_id] at hlt hadm
        have hbind := (admitsGate_iff _ _).mp hadm
        rcases hnot with hn | hn | hn
        · exact hn rfl
        · omega
        · exact not_or.mpr hn hbind
      · exact absurd (show kindPosition = kindStage from hk) (by decide)
    | _ => simp_all [Taken]
  · refine congrArg Host.Outcome.next (ringArrival_passed h (good_goodFrame _ _) (by decide : kindStage ≠ kindCycle)
      (by decide : kindStage ≠ kindSetpoint) ?_ false)
    cases role with
    | telemetry =>
      rintro ⟨-, ⟨hk, -⟩ | ⟨-, hlt, hadm⟩⟩
      · exact absurd (show kindStage = kindPosition from hk) (by decide)
      · rw [goodFrame_id] at hlt hadm
        have hbind := (admitsGauge_iff _ _).mp hadm
        rcases hnot with hn | hn | hn
        · exact hn rfl
        · omega
        · exact not_or.mpr hn hbind
    | _ => simp_all [Taken]
  · refine congrArg Host.Outcome.next (ringArrival_passed h (good_goodFrame _ _) (by decide : kindHeartbeat ≠ kindCycle)
      (by decide : kindHeartbeat ≠ kindSetpoint) ?_ false)
    cases role <;> simp_all [Taken]
  · refine congrArg Host.Outcome.next (ringArrival_passed h (good_goodFrame _ _) (by decide : kindIdle ≠ kindCycle)
      (by decide : kindIdle ≠ kindSetpoint) ?_ false)
    cases role <;> simp_all [Taken]
  · refine congrArg Host.Outcome.next (ringArrival_passed h hgood hcyc hset ?_ false)
    cases role <;> simp_all [Taken]

end Sys2Proof.GateRing

namespace Sys2Proof.Machine

open Safety

/-! ### The tests of a management request, one by one (R151) -/

/-- 11 Table 11-4: the op code of a request. -/
def Op.code : Op → Byte
  | .read => 1
  | .readNext => 2
  | .write => 3
  | .writeNext => 4
  | .setPointer => 5
  | .openEdit => 6
  | .check => 7
  | .abandon => 8
  | .capture => 9
  | .command => 10

/-- 11 Table 11-4: the code of a management command. -/
def Command.code : Command → Nat
  | .engineHold => 0
  | .engineRun => 1
  | .engineStep => 2
  | .engineRestart => 3
  | .store => 4
  | .reload => 5
  | .lockRaise => 6
  | .lockLower => 7
  | .commissionLock => 8
  | .gateOut => 9
  | .gateIn => 10
  | .scheduleStart => 11
  | .floodDeclare => 12
  | .floodCancel => 13
  | .curtailRequest => 14

/-- 11 Table 11-4: the op code of a defined request. -/
theorem code_of_opOf {b : Byte} {o : Op} (h : opOf b = some o) : b = Op.code o := by
  unfold opOf at h
  split at h <;> cases h <;> exact BitVec.eq_of_toNat_eq (by assumption)

/-- 11 Table 11-4: the ops 1 to 10 are defined. -/
theorem opOf_eq_none_iff (b : Byte) : opOf b = none ↔ b = 0 ∨ 10 < b.toNat := by
  revert b
  decide

/-- 11 Table 11-4: the code of a defined command. -/
theorem code_of_commandOf {b : Byte} {c : Command} (h : commandOf b = some c) : b.toNat = Command.code c := by
  unfold commandOf at h
  split at h <;> cases h <;> assumption

/-- 11 Table 11-4: the command codes 0 to 14 are defined. -/
theorem commandOf_eq_none_iff (b : Byte) : commandOf b = none ↔ 14 < b.toNat := by
  revert b
  decide

/-- Test 1 of R151. -/
theorem opFails_iff (op : Byte) (q : Request) : opFails (opOf op) q.valueB = true ↔ OpFails op q := by
  unfold OpFails requestCode
  cases h : opOf op with
  | none =>
    have := (opOf_eq_none_iff op).mp h
    simp only [opFails, true_iff]
    exact this.imp_right .inl
  | some o =>
    have hn : ¬ (op = 0 ∨ 10 < op.toNat) := fun e => by
      rw [(opOf_eq_none_iff op).mpr e] at h; cases h
    have ho := code_of_opOf h
    rw [← or_assoc, or_iff_right hn]
    cases o with
    | command =>
      subst ho
      simp [opFails, commandIn, commandOf_eq_none_iff, Op.code]
    | _ => subst ho; simp [opFails, Op.code]

/-- R150: the space that bit 15 of value A selects. -/
theorem spaceOf_eq (q : Request) : spaceOf q.valueA = if q.valueA.getLsbD 15 then .state else .table := by
  simp [spaceOf, BitVec.msb_eq_getLsbD_last]

/-- R150, R153: the address that a request acts at. -/
theorem target_eq (s : State) {op : Byte} {o : Op} (h : opOf op = some o) (q : Request) :
    State.target s o q.valueA = requestAddress s op q := by
  have ho := code_of_opOf h
  subst ho
  have hs := spaceOf_eq q
  cases o <;> simp [State.target, requestAddress, Op.code, addressOf, hs, State.pointer] <;> split <;> simp_all

/-- R151: a COMMAND request that passes test 1 carries a defined command. -/
theorem commandIn_of_opFails {op : Byte} {q : Request} (h : ¬ OpFails op q) (ho : opOf op = some .command) :
    ∃ c, commandIn q.valueB = some c ∧ requestCode q = Command.code c := by
  have h10 : op = 10 := code_of_opOf ho
  cases hc : commandIn q.valueB with
  | none => exact absurd (.inr (.inr ⟨h10, (commandOf_eq_none_iff _).mp hc⟩)) h
  | some c => exact ⟨c, rfl, code_of_commandOf hc⟩


/-- R152: a used word lies in a group. -/
theorem groupOf_of_usedWord {a : Nat} (h : usedWord a = true) : groupOf a ≠ none := by
  intro e
  simp [usedWord, e] at h

/-- R162: the data that a word of the request area does not take. -/
theorem requestAreaData_iff (a : Nat) (b : Word) :
    requestAreaData a b = true ↔ (a = 0x74D ∨ a = 0x74F) ∧ 255 < b.toNat := by
  simp only [requestAreaData, Bool.or_eq_true, Bool.and_eq_true, beq_iff_eq, decide_eq_true_eq, or_and_right]

/-- Test 2 of R151. -/
theorem rangeFails_iff (s : State) {op : Byte} {o : Op} {q : Request} (ho : opOf op = some o) (hop : ¬ OpFails op q) :
    State.rangeFails s o (requestFrame op q) = true ↔ RangeFails s op q := by
  have ht := target_eq s ho q
  have hs := spaceOf_eq q
  have hc := code_of_opOf ho
  simp only [State.rangeFails, requestFrame_valueA, requestFrame_valueB, ht, hs]
  generalize ha : requestAddress s op q = a
  unfold RangeFails toState
  rw [ha]
  cases o with
  | command =>
    obtain ⟨c, hc1, hc2⟩ := commandIn_of_opFails hop ho
    subst hc
    simp only [hc1, Op.code, hc2]
    cases c with
    | gateOut | gateIn | scheduleStart =>
      simp [argumentFails, Command.code, requestArgument, argumentIn]
      exact decide_eq_true_iff
    | _ => simp [argumentFails, Command.code]
  | write | writeNext =>
    subst hc
    cases hb : q.valueA.getLsbD 15 <;>
      simp [Op.code, reservedClear, writeRangeFails, requestAreaData_iff]
  | read | readNext | setPointer =>
    subst hc
    cases hb : q.valueA.getLsbD 15 <;>
      simp [Op.code, reservedClear, readRangeFails, readNextRangeFails, Space.last]
  | openEdit | capture =>
    subst hc
    simp [Op.code]
    exact decide_eq_true_iff
  | check | abandon =>
    subst hc
    simp [Op.code]

/-- R159: the groups that a lock level guards. -/
theorem forbidsGroup_iff (l : Lock) (n : Nat) : Lock.forbidsGroup l n = true ↔ GroupLocked l n := by
  cases l <;> simp [Lock.forbidsGroup, GroupLocked, limitsGuards]

/-- R162: the words of the request area. -/
theorem inRequestArea_iff (a : Nat) : inRequestArea a = true ↔ 0x74D ≤ a ∧ a ≤ 0x74F := by
  simp [inRequestArea]

theorem inRequestArea_eq_false_iff (a : Nat) : inRequestArea a = false ↔ ¬ (0x74D ≤ a ∧ a ≤ 0x74F) := by
  rw [← inRequestArea_iff, Bool.not_eq_true]

/-- Test 3 of R151. -/
theorem lockedFails_iff (s : State) {op : Byte} {o : Op} {q : Request} (ho : opOf op = some o)
    (hop : ¬ OpFails op q) : State.lockedFails s o (requestFrame op q) = true ↔ LockFails s op q := by
  have ht := target_eq s ho q
  have hs := spaceOf_eq q
  have hc := code_of_opOf ho
  simp only [State.lockedFails, requestFrame_valueA, requestFrame_valueB, ht, hs]
  unfold LockFails toState
  cases o with
  | command =>
    obtain ⟨c, hc1, hc2⟩ := commandIn_of_opFails hop ho
    subst hc
    simp only [hc1, Op.code, hc2]
    cases hl : s.mgu.lock <;> cases c <;> simp [Mgu.forbidsCommand, Command.code, hl]
  | check =>
    subst hc
    cases hb : s.mgu.buffer <;> simp [Op.code, forbidsGroup_iff]
  | write | writeNext =>
    subst hc
    cases hb : q.valueA.getLsbD 15 <;> simp [Op.code, inRequestArea_iff]
  | read | readNext | setPointer | openEdit | abandon | capture =>
    subst hc
    simp [Op.code, forbidsGroup_iff]

/-- Test 4 of R151. -/
theorem maintFails_iff (s : State) {op : Byte} {o : Op} {q : Request} (ho : opOf op = some o)
    (hop : ¬ OpFails op q) : State.maintFails s o (requestFrame op q) = true ↔ MaintFails s op q := by
  have hc := code_of_opOf ho
  simp only [State.maintFails, requestFrame_valueB]
  unfold MaintFails
  cases o with
  | command =>
    obtain ⟨c, hc1, hc2⟩ := commandIn_of_opFails hop ho
    subst hc
    simp only [hc1, Op.code, hc2]
    cases c <;> simp [Command.code]
  | _ => subst hc; simp [Op.code]

/-- Test 5 of R151. -/
theorem busyFails_iff (s : State) {op : Byte} {o : Op} {q : Request} (ho : opOf op = some o)
    (hop : ¬ OpFails op q) : State.busyFails s o (requestFrame op q) = true ↔ BusyFails s op q := by
  have hc := code_of_opOf ho
  simp only [State.busyFails, requestFrame_valueB]
  unfold BusyFails
  cases o with
  | command =>
    obtain ⟨c, hc1, hc2⟩ := commandIn_of_opFails hop ho
    subst hc
    simp only [hc1, Op.code, hc2]
    cases c <;> simp [Command.code, Command.busy]
  | _ => subst hc; simp [Op.code]

/-- R152: the address of a WRITE or WRITE_NEXT that passes test 2 is that of a used word. -/
theorem usedWord_of_write {s : State} {op : Byte} {q : Request} (h : ¬ RangeFails s op q) (ho : op = 3 ∨ op = 4) :
    usedWord (requestAddress s op q) = true := by
  by_contra hu
  have hu' : usedWord (requestAddress s op q) = false := Bool.eq_false_of_not_eq_true hu
  by_cases hb : toState q
  · exact h (.inr (.inr (.inr (.inr (.inl ⟨ho, hb⟩)))))
  · exact h (.inr (.inr (.inr (.inl ⟨ho.elim (fun e => .inr (.inl e)) (fun e => .inr (.inr e)), hb, hu'⟩))))

/-- Test 6 of R151, of a request that passes test 2. -/
theorem editFails_iff (s : State) {op : Byte} {o : Op} {q : Request} (ho : opOf op = some o)
    (hr : ¬ RangeFails s op q) : State.editFails s o (requestFrame op q) = true ↔ EditFails s op q := by
  have ht := target_eq s ho q
  have hc := code_of_opOf ho
  simp only [State.editFails, requestFrame_valueA, ht]
  unfold EditFails
  cases o with
  | write | writeNext =>
    subst hc
    obtain ⟨n, hn⟩ : ∃ n, groupOf (requestAddress s _ q) = some n :=
      Option.ne_none_iff_exists'.mp (groupOf_of_usedWord (usedWord_of_write hr (by decide)))
    simp only [hn]
    cases hb : s.mgu.buffer with
    | none => simp [Op.code, inRequestArea_eq_false_iff]
    | some e => simp [Op.code, inRequestArea_eq_false_iff, @eq_comm Nat e.group]
  | _ => subst hc; simp [Op.code]

/-- Test 7 of R151. -/
theorem invalidFails_iff (s : State) {op : Byte} {o : Op} (ho : opOf op = some o) :
    State.invalidFails s o = true ↔ ∃ a why, InvalidAt s op a why := by
  have hc := code_of_opOf ho
  unfold InvalidAt State.invalidFails State.fault
  cases o with
  | check =>
    subst hc
    cases s.mgu.buffer <;> simp [Op.code, Option.isSome_iff_exists]
  | _ => subst hc; simp [Op.code]


/-- R151: a request that passes test 1 has a defined op, and its status is that of the first later test that fails. -/
theorem refusalOf_of_op (s : State) {op : Byte} {q : Request} (h : ¬ OpFails op q) :
    ∃ o, opOf op = some o ∧
      State.refusalOf s (requestFrame op q) = firstStatus (State.laterTests s o (requestFrame op q)) := by
  have h1 : opFails (opOf op) q.valueB = false :=
    Bool.eq_false_of_not_eq_true (fun e => h ((opFails_iff op q).mp e))
  cases ho : opOf op with
  | none => rw [ho] at h1; cases h1
  | some o =>
    refine ⟨o, rfl, ?_⟩
    unfold State.refusalOf
    rw [requestFrame_id, requestFrame_valueB, h1, ho]
    rfl

/-- R151: the status with which a request is refused, by the tests in their order. -/
theorem refusalOf_request (s : State) (op : Byte) (q : Request) :
    (OpFails op q → State.refusalOf s (requestFrame op q) = some .nakOp) ∧
    (¬ OpFails op q → RangeFails s op q → State.refusalOf s (requestFrame op q) = some .nakRange) ∧
    (¬ OpFails op q → ¬ RangeFails s op q → LockFails s op q →
      State.refusalOf s (requestFrame op q) = some .nakLocked) ∧
    (¬ OpFails op q → ¬ RangeFails s op q → ¬ LockFails s op q → MaintFails s op q →
      State.refusalOf s (requestFrame op q) = some .nakMaint) ∧
    (¬ OpFails op q → ¬ RangeFails s op q → ¬ LockFails s op q → ¬ MaintFails s op q → BusyFails s op q →
      State.refusalOf s (requestFrame op q) = some .nakBusy) ∧
    (¬ OpFails op q → ¬ RangeFails s op q → ¬ LockFails s op q → ¬ MaintFails s op q → ¬ BusyFails s op q →
      EditFails s op q → State.refusalOf s (requestFrame op q) = some .nakEdit) ∧
    (¬ OpFails op q → ¬ RangeFails s op q → ¬ LockFails s op q → ¬ MaintFails s op q → ¬ BusyFails s op q →
      ¬ EditFails s op q → (∃ a why, InvalidAt s op a why) →
      State.refusalOf s (requestFrame op q) = some .nakInvalid) ∧
    (¬ OpFails op q → ¬ RangeFails s op q → ¬ LockFails s op q → ¬ MaintFails s op q → ¬ BusyFails s op q →
      ¬ EditFails s op q → (¬ ∃ a why, InvalidAt s op a why) → State.refusalOf s (requestFrame op q) = none) := by
  refine ⟨fun h => ?_, fun k1 k2 => ?_, fun k1 k2 k3 => ?_, fun k1 k2 k3 k4 => ?_, fun k1 k2 k3 k4 k5 => ?_,
    fun k1 k2 k3 k4 k5 k6 => ?_, fun k1 k2 k3 k4 k5 k6 k7 => ?_, fun k1 k2 k3 k4 k5 k6 k7 => ?_⟩
  · unfold State.refusalOf
    rw [requestFrame_id, requestFrame_valueB, (opFails_iff op q).mpr h, if_pos rfl]
  all_goals
    obtain ⟨o, ho, e⟩ := refusalOf_of_op s k1
    rw [e]
  · simp [State.laterTests, firstStatus, rangeFails_iff s ho k1, k2]
  · simp [State.laterTests, firstStatus, rangeFails_iff s ho k1, k2, lockedFails_iff s ho k1, k3]
  · simp [State.laterTests, firstStatus, rangeFails_iff s ho k1, k2, lockedFails_iff s ho k1, k3,
      maintFails_iff s ho k1, k4]
  · simp [State.laterTests, firstStatus, rangeFails_iff s ho k1, k2, lockedFails_iff s ho k1, k3,
      maintFails_iff s ho k1, k4, busyFails_iff s ho k1, k5]
  · simp [State.laterTests, firstStatus, rangeFails_iff s ho k1, k2, lockedFails_iff s ho k1, k3,
      maintFails_iff s ho k1, k4, busyFails_iff s ho k1, k5, editFails_iff s ho k2, k6]
  · simp only [State.laterTests, firstStatus, rangeFails_iff s ho k1, k2, lockedFails_iff s ho k1, k3,
      maintFails_iff s ho k1, k4, busyFails_iff s ho k1, k5, editFails_iff s ho k2, k6, invalidFails_iff s ho, k7,
      if_true, if_false]
  · simp only [State.laterTests, firstStatus, rangeFails_iff s ho k1, k2, lockedFails_iff s ho k1, k3,
      maintFails_iff s ho k1, k4, busyFails_iff s ho k1, k5, editFails_iff s ho k2, k6, invalidFails_iff s ho, k7,
      if_false]

/-- R157: what a CHECK finds at fault, as `InvalidAt` says it. -/
theorem fault_of_invalidAt {s : State} {op : Byte} {a : Nat} {why : Reason} (h : InvalidAt s op a why) :
    State.fault s = some (a, why) := by
  obtain ⟨-, e, he, hv⟩ := h
  rw [State.fault, he]
  exact hv

/-- R157: the values of a NAK_INVALID reply. -/
theorem nakValues_invalid {s : State} {a : Nat} {why : Reason} (h : State.fault s = some (a, why)) (f : Frame) :
    State.nakValues s .nakInvalid f = (BitVec.ofNat 16 a, BitVec.ofNat 16 (Reason.code why)) := by
  simp only [State.nakValues, h]

/-- R150: the values of a NAK reply but NAK_INVALID: value B 0, and value A as received, or the space bit and the
pointer. -/
theorem nakValues_request (s : State) {st : Status} (hst : st ≠ .nakInvalid) (op : Byte) (q : Request) :
    (State.nakValues s st (requestFrame op q)).2 = 0 ∧
    (op ≠ 2 → op ≠ 4 → (State.nakValues s st (requestFrame op q)).1 = q.valueA) ∧
    (op = 2 ∨ op = 4 → (State.nakValues s st (requestFrame op q)).1 =
      BitVec.ofNat 16 ((if q.valueA.getLsbD 15 then 0x8000 else 0) + requestAddress s op q)) := by
  have key : ∀ o, opOf op = some o → spaceAddress (spaceOf q.valueA) (State.target s o q.valueA) =
      BitVec.ofNat 16 ((if q.valueA.getLsbD 15 then 0x8000 else 0) + requestAddress s op q) := by
    intro o ho
    rw [target_eq s ho, spaceOf_eq]
    split <;> simp [spaceAddress]
  unfold State.nakValues
  rw [requestFrame_id, requestFrame_valueA]
  split
  · exact absurd rfl hst
  · rename_i ho _
    exact ⟨rfl, fun h2 _ => absurd (code_of_opOf ho) h2, fun _ => key _ ho⟩
  · rename_i ho _
    exact ⟨rfl, fun _ h4 => absurd (code_of_opOf ho) h4, fun _ => key _ ho⟩
  · rename_i hr hw _
    refine ⟨rfl, fun _ _ => rfl, ?_⟩
    rintro (rfl | rfl)
    · exact absurd (by decide) hr
    · exact absurd (by decide) hw

open Laws in
/-- 11 Table 11-4: the frame of a command that brings a management request. -/
theorem ringFrame_of_managementRequest {c : Instr} {op : Byte} {q : Request}
    (h : managementRequest c = some (op, q)) : Families.ringFrame c = some (requestFrame op q) := by
  cases c <;> cases h <;> rfl

/-- The status of a request's reply: that of the test that fails, or OK. -/
theorem manage_status (s : State) (op : Byte) (q : Request) :
    ∃ a b, (State.manage s (requestFrame op q)).2 =
        replyFrame (Status.code ((State.refusalOf s (requestFrame op q)).getD .ok)) a b q.tag ∧
      ∀ st, State.refusalOf s (requestFrame op q) = some st →
        (State.manage s (requestFrame op q)).1 = s ∧ (a, b) = State.nakValues s st (requestFrame op q) := by
  cases hr : State.refusalOf s (requestFrame op q) with
  | some st =>
    rw [manage_refused hr]
    refine ⟨_, _, rfl, fun st' e => ?_⟩
    cases e
    exact ⟨rfl, rfl⟩
  | none =>
    cases ho : opOf op with
    | none =>
      have hop : OpFails op q := (opFails_iff op q).mp (by rw [ho]; rfl)
      rw [(refusalOf_request s op q).1 hop] at hr
      cases hr
    | some o =>
      rw [manage_performed hr ho]
      exact ⟨_, _, rfl, fun st' e => nomatch e⟩

end Sys2Proof.Machine

namespace Sys2Proof.GateRing

open Machine Safety Laws

/-- No status but OK has code 0, and none but NAK_INVALID code 5. -/
theorem status_code (st : Status) : (Status.code st = 0 → st = .ok) ∧ (Status.code st ≠ 5 → st ≠ .nakInvalid) := by
  cases st <;> decide

/-- Settles O51: the reply carries the status of the first failing test, and only an OK request has an effect. -/
theorem refusedRequestChangesNothing : Obligations.RefusedRequestChangesNothing := by
  unfold Obligations.RefusedRequestChangesNothing
  intro s c op q hreq hat
  obtain ⟨late, hx⟩ := exec_ringFrame (ringFrame_of_managementRequest hreq) s
  rw [ringArrival_request hat] at hx
  obtain ⟨a, b, hreply, hnak⟩ := manage_status (State.positionTaken s) op q
  obtain ⟨h7, h1, h2, h6, h3, h4, h5, h0⟩ := refusalOf_request (State.positionTaken s) op q
  have code : ∀ {st : Status}, State.refusalOf (State.positionTaken s) (requestFrame op q) = some st →
      Status.code ((State.refusalOf (State.positionTaken s) (requestFrame op q)).getD .ok) = Status.code st := by
    intro st e
    rw [e]; rfl
  refine ⟨_, a, b, Status.code ((State.refusalOf (State.positionTaken s) (requestFrame op q)).getD .ok), hx,
    congrArg some hreply, fun k => code (h7 k), fun k1 k2 => code (h1 k1 k2), fun k1 k2 k3 => code (h2 k1 k2 k3),
    fun k1 k2 k3 k4 => code (h6 k1 k2 k3 k4), fun k1 k2 k3 k4 k5 => code (h3 k1 k2 k3 k4 k5),
    fun k1 k2 k3 k4 k5 k6 => code (h4 k1 k2 k3 k4 k5 k6),
    fun k1 k2 k3 k4 k5 k6 => ⟨fun w why hw => ?_, fun hw => ?_⟩, fun hst => ?_, fun hst hst' => ?_⟩
  · have hinv := h5 k1 k2 k3 k4 k5 k6 ⟨w, why, hw⟩
    have hv := (hnak _ hinv).2.trans (nakValues_invalid (fault_of_invalidAt (s := State.positionTaken s) hw) _)
    exact ⟨code hinv, congrArg Prod.fst hv, congrArg Prod.snd hv⟩
  · rw [h0 k1 k2 k3 k4 k5 k6 (fun ⟨w, why, e⟩ => hw w why e)]
    rfl
  · cases hr : State.refusalOf (State.positionTaken s) (requestFrame op q) with
    | none => rw [hr] at hst; exact absurd rfl hst
    | some st =>
      obtain ⟨hkept, -⟩ := hnak st hr
      rw [← hr, ← hreply, ← emit_positionTaken]
      exact congrArg (fun u => State.emit u _) hkept
  · cases hr : State.refusalOf (State.positionTaken s) (requestFrame op q) with
    | none => rw [hr] at hst; exact absurd rfl hst
    | some st =>
      rw [hr] at hst'
      obtain ⟨-, hv⟩ := hnak st hr
      obtain ⟨hB, hA, hA'⟩ := nakValues_request (State.positionTaken s) ((status_code st).2 hst') op q
      rw [← hv] at hB hA hA'
      exact ⟨hB, hA, fun e _ => hA' e⟩

end Sys2Proof.GateRing

namespace Sys2Proof.Machine

open Safety

/-! ### What a series of events does to the notices and counters (R167 to R171) -/

/-- What a series of events does to the NCU's record: the notices handed to it, one after another, and how often each
station counter rises. -/
structure Ncu.Reported (u v : Ncu) (l : List Notice) (n : Counter → Nat) : Prop where
  queue : v.queue = (l.foldl Ncu.notify u).queue
  lost : v.lost = (l.foldl Ncu.notify u).lost
  bank : v.bank = u.bank
  travel : v.counters.travel = u.counters.travel
  reversals : v.counters.reversals = u.counters.reversals
  station : ∀ c, v.counters.station[Counter.ix c] = raised u.counters.station[Counter.ix c] (n c)

@[simp] theorem raised_zero (c : Nat) : raised c 0 = c := rfl

/-- R171: increases one after another are one increase by their sum. -/
theorem raised_raised (c n m : Nat) : raised (raised c n) m = raised c (n + m) := by
  unfold raised
  split
  · split <;> simp_all
  · split
    · simp_all
    · split
      · omega
      · omega

/-- R167 to R169: what a notice does to the queue goes by the queue and the lost count alone. -/
theorem notify_congr {u v : Ncu} (hq : v.queue = u.queue) (hl : v.lost = u.lost) (n : Notice) :
    (Ncu.notify v n).queue = (Ncu.notify u n).queue ∧ (Ncu.notify v n).lost = (Ncu.notify u n).lost := by
  cases n <;> simp only [Ncu.notify, Ncu.append, hq, hl] <;> (repeat' split) <;> exact ⟨rfl, rfl⟩

theorem foldl_notify_congr {u v : Ncu} (hq : v.queue = u.queue) (hl : v.lost = u.lost) (l : List Notice) :
    (l.foldl Ncu.notify v).queue = (l.foldl Ncu.notify u).queue ∧
    (l.foldl Ncu.notify v).lost = (l.foldl Ncu.notify u).lost := by
  induction l generalizing u v with
  | nil => exact ⟨hq, hl⟩
  | cons n rest ih => exact ih (notify_congr hq hl n).1 (notify_congr hq hl n).2

/-- Nothing happens to the record. -/
theorem Ncu.Reported.refl (u : Ncu) : Ncu.Reported u u [] (fun _ => 0) :=
  ⟨rfl, rfl, rfl, rfl, rfl, fun _ => rfl⟩

/-- One series of events after another. -/
theorem Ncu.Reported.trans {u v w : Ncu} {l k : List Notice} {n m : Counter → Nat} (h : Ncu.Reported u v l n)
    (h' : Ncu.Reported v w k m) : Ncu.Reported u w (l ++ k) (fun c => n c + m c) where
  queue := by
    rw [h'.queue, List.foldl_append]
    exact (foldl_notify_congr h.queue h.lost k).1
  lost := by
    rw [h'.lost, List.foldl_append]
    exact (foldl_notify_congr h.queue h.lost k).2
  bank := h'.bank.trans h.bank
  travel := h'.travel.trans h.travel
  reversals := h'.reversals.trans h.reversals
  station := fun c => by rw [h'.station, h.station, raised_raised]

/-- One notice. -/
theorem reported_notify (u : Ncu) (n : Notice) : Ncu.Reported u (Ncu.notify u n) [n] (fun _ => 0) :=
  ⟨rfl, rfl, by simp, by simp, by simp, fun c => by simp⟩

/-- How often each counter rises when one of them rises `k` times. -/
def onlyCounter (c : Counter) (k : Nat) : Counter → Nat := fun d => if d = c then k else 0

/-- One increase of a station counter. -/
theorem reported_count (s : State) (c : Counter) :
    Ncu.Reported s.ncu (State.count s c).ncu [] (onlyCounter c 1) where
  queue := rfl
  lost := rfl
  bank := rfl
  travel := rfl
  reversals := rfl
  station := fun d => by
    by_cases h : d = c
    · subst h
      simpa [onlyCounter, raised, State.counter] using counter_count_self s d
    · simpa [onlyCounter, h, State.counter] using counter_count_ne s h

/-- The counters that no event raises stand as they were. -/
theorem Ncu.Reported.countersKept {u v : Ncu} {l : List Notice} {n : Counter → Nat} (h : Ncu.Reported u v l n)
    {raisedOnes : List Counter} (hn : ∀ c, c ∉ raisedOnes → n c = 0) : CountersKept raisedOnes u v :=
  ⟨h.bank, h.travel, h.reversals, fun c hc => by rw [h.station, hn c hc, raised_zero]⟩


/-! ### The slot table (R4, R5, 11 Table 11-7) -/

/-- 11 Table 11-7: bits 15..8 of an entry. -/
theorem roleCode_eq (e : Word) : (e.extractLsb' 8 8).toNat = e.toNat / 256 := by
  have := e.isLt
  simp [BitVec.extractLsb'_toNat, Nat.shiftRight_eq_div_pow]
  omega

/-- 11 Table 11-7: bits 7..0 of an entry. -/
theorem entryBinding_eq (e : Word) : entryBinding e = e.toNat % 256 := by
  simp [entryBinding, BitVec.extractLsb'_toNat]

/-- 11 Table 11-7: the role of an entry by its code. -/
theorem entryRole_eq (e : Word) :
    entryRole e = if e.toNat / 256 = 1 then .command else if e.toNat / 256 = 2 then .telemetry
      else if e.toNat / 256 = 3 then .management else if e.toNat / 256 = 4 then .notice
      else if e.toNat / 256 = 5 then .heartbeat else .unused := by
  unfold entryRole
  rw [roleCode_eq]
  split <;> simp_all

/-- Log 19: an entry is read as UNUSED at code 0 and at every code that is not defined. -/
theorem entryRole_eq_unused_iff (e : Word) : entryRole e = .unused ↔ e.toNat / 256 = 0 ∨ 5 < e.toNat / 256 := by
  rw [entryRole_eq]
  constructor
  · intro h
    by_contra hn
    have hcode : e.toNat / 256 = 1 ∨ e.toNat / 256 = 2 ∨ e.toNat / 256 = 3 ∨ e.toNat / 256 = 4 ∨ e.toNat / 256 = 5 := by
      omega
    rcases hcode with hc | hc | hc | hc | hc <;> simp [hc] at h
  · intro h
    rw [if_neg (by omega), if_neg (by omega), if_neg (by omega), if_neg (by omega), if_neg (by omega)]

theorem entryRole_eq_management_iff (e : Word) : entryRole e = .management ↔ e.toNat / 256 = 3 := by
  rw [entryRole_eq]
  constructor
  · intro h
    repeat' split at h
    all_goals first | assumption | cases h
  · intro h
    simp [h]

/-- R5: whether an entry within S has the role MANAGEMENT; a position without an entry has none. -/
theorem hasManagement_eq_false_iff (x : SlotTable) :
    SlotTable.hasManagement x = false ↔ ∀ e, e < x.count → (SlotTable.entry x e).toNat / 256 ≠ 3 := by
  have key : SlotTable.hasManagement x = true ↔ ∃ e, e < x.count ∧ (SlotTable.entry x e).toNat / 256 = 3 := by
    simp only [SlotTable.hasManagement, List.any_eq_true, beq_iff_eq, entryRole_eq_management_iff]
    constructor
    · rintro ⟨w, hw, hm⟩
      obtain ⟨e, he, rfl⟩ := List.getElem_of_mem hw
      have he' := he
      rw [List.length_take, Nat.lt_min] at he'
      refine ⟨e, he'.1, ?_⟩
      rw [List.getElem_take] at hm
      simpa [SlotTable.entry, he'.2] using hm
    · rintro ⟨e, he, hm⟩
      by_cases hl : e < x.entries.length
      · refine ⟨x.entries[e], ?_, by simpa [SlotTable.entry, hl] using hm⟩
        exact List.mem_take_iff_getElem.mpr ⟨e, Nat.lt_min.mpr ⟨he, hl⟩, rfl⟩
      · simp [SlotTable.entry, List.getElem?_eq_none (Nat.not_lt.mp hl)] at hm
  rw [← Bool.not_eq_true, key]
  simp

/-- R4, R5: the role served at a position, as 11 Table 11-7 gives it. -/
theorem role_eq_roleServed (x : SlotTable) (p : Nat) : SlotTable.role x p = roleServed x p := by
  unfold SlotTable.role roleServed
  simp only [entryRole_eq_unused_iff, hasManagement_eq_false_iff]
  rw [entryRole_eq]

/-- 11 Table 11-7: the gate that a binding names. -/
theorem boundGate_eq_some_iff (w : Word) (g : GateIx) : boundGate w = some g ↔ w.toNat % 256 = g.val := by
  unfold boundGate
  rw [← entryBinding_eq]
  split
  · simp [Fin.ext_iff]
  · rename_i h
    simp only [reduceCtorEq, false_iff]
    have := g.isLt
    omega

/-- R4: an entry of the slot table that a marker takes. -/
theorem entry_installedSlots (t : WordStore) {e : Nat} (h : e < 32) :
    SlotTable.entry (installedSlots t) e = WordStore.read t (0x040 + e) := by
  simp [SlotTable.entry, installedSlots, h]

/-! ### The cycle marker (R2, R15, R17) -/

/-- R17: what the end of a ring loss leaves alone. -/
theorem endLoss_eq (s : State) : State.endLoss s = { s with
    ncu := if s.rpu.state = .ringLost then Ncu.notify s.ncu (.ring s.rpu.gap) else s.ncu } := by
  unfold State.endLoss
  split
  · rfl
  · rfl

/-- R2: the cycle a marker opens, once the cycle before it is closed. -/
def State.opened (v : State) (m : MarkerFields) (late : Bool) : State :=
  State.emit (State.markerEvent (State.openCycle (State.endLoss v) m.cycle) late) (markerFrame m)

/-- R2: a marker taken outside LOAD settles, closes the open cycle and opens its own. -/
theorem exec_cycleMarker {s : State} (h : s.rpu.state ≠ .load) (m : MarkerFields) (late : Bool) :
    exec (.cycleMarker m late) s = .next (State.opened (State.closeCycle (State.settle s)) m late) := by
  have hm : Frame.isMarker (markerFrame m) = true := isMarker_goodFrame _ _
  refine congrArg Host.Outcome.next ((ringArrival_marker h hm late).trans ?_)
  simp only [State.takeMarker, cycle_markerFrame]
  rfl

/-- R2, R4, R17, R34, R85, R128, R145: a cycle opened, block by block. -/
theorem opened_spec (v : State) (m : MarkerFields) (late : Bool) :
    (State.opened v m late).rpu =
      { state := .run, cycleNumber := some m.cycle, slotPos := 0,
        active := some (installedSlots v.tst.table), gap := 0, ringOut := some (markerFrame m) } ∧
    (State.opened v m late).scu = { v.scu with cycleCount := v.scu.cycleCount + 1 } ∧
    (State.opened v m late).spu = { v.spu with window := min 65535 (v.spu.window + 1) } ∧
    (State.opened v m late).sqe = { v.sqe with dwell := min 255 (v.sqe.dwell + 1) } ∧
    (∀ n : Fin 8, (State.opened v m late).adu.gauges[n] =
      if late then v.adu.gauges[n] else { v.adu.gauges[n] with age := min 65535 (v.adu.gauges[n].age + 1) }) ∧
    (State.opened v m late).adu = { v.adu with gauges := (State.opened v m late).adu.gauges } ∧
    (State.opened v m late).ncu =
      (if v.rpu.state = .ringLost then Ncu.notify v.ncu (.ring v.rpu.gap) else v.ncu) ∧
    (State.opened v m late).handed = { v.handed with
      ages := late, boundary := v.scu.cycleCount + 1 == v.scu.intervalLength, window := true, evaluation := true } ∧
    (State.opened v m late).clu = v.clu ∧ (State.opened v m late).mgu = v.mgu ∧
    (State.opened v m late).tst = v.tst := by
  unfold State.opened
  rw [endLoss_eq]
  cases late with
  | true => exact ⟨rfl, rfl, rfl, rfl, fun n => rfl, rfl, rfl, rfl, rfl, rfl, rfl⟩
  | false =>
    refine ⟨rfl, rfl, rfl, rfl, fun n => ?_, rfl, rfl, rfl, rfl, rfl, rfl⟩
    simp [State.emit, State.markerEvent, State.markDwell, State.markWindow, State.markInterval, State.markAges,
      State.ageGauges, State.openCycle, satAdd]

end Sys2Proof.Machine

namespace Sys2Proof.GateRing

open Machine Safety

/-- R15: a marker that reaches the end of the open cycle, or finds none, closes no short cycle. -/
theorem closeCycle_full {s : Machine.State} (h : ∀ x, s.rpu.active = some x → x.count ≤ s.rpu.slotPos) :
    State.closeCycle s = s := by
  unfold State.closeCycle
  split
  · rename_i x hx
    rw [if_neg (Nat.not_lt.mpr (h x hx))]
  · rfl

/-- Settles O17: the slot table's fields, and the cycle opened on the settled state. -/
theorem markerOpensCycle : Obligations.MarkerOpensCycle := by
  unfold Obligations.MarkerOpensCycle
  refine ⟨fun t => ⟨rfl, fun e he => entry_installedSlots t he⟩, role_eq_roleServed,
    fun w => ⟨entryBinding_eq w, boundGate_eq_some_iff w⟩, fun s m late hl hfull => ?_⟩
  obtain ⟨hrpu, -, -, -, -⟩ := settle_frame s
  have hclose : State.closeCycle (State.settle s) = State.settle s := closeCycle_full (by rw [hrpu]; exact hfull)
  obtain ⟨h1, h2, h3, h4, h5, h6, h7, h8, h9, h10, h11⟩ := opened_spec (State.settle s) m late
  have hx := exec_cycleMarker hl m late
  rw [hclose] at hx
  rw [hrpu] at h7
  refine ⟨_, _, rfl, settled_settle s, hx, h1, ?_, h2, h3, h4, h5, ?_, ?_, ?_, h7, h8, h9, h10, h11⟩
  · rw [State.ringFault, h1]; rfl
  · rw [h6]
  · rw [h6]
  · rw [h6]

end Sys2Proof.GateRing

namespace Sys2Proof.Machine

open Safety

/-! ### A short cycle (R15, R82) -/

/-- R82: a slot-not-reached event raises the hold count of gate `g`: it is in SERVICE or STALE, no trip is to close it,
and the engine does not own it. -/
abbrev State.countsMissedSlots (s : State) (g : GateIx) : Prop :=
  ((State.gate s g).state = .service ∨ (State.gate s g).state = .stale) ∧ State.tripped s g = false ∧
    (State.gate s g).owner ≠ .engine

/-- R78: a gate's record after its hold count has risen `k` times at one hold limit. -/
def Gate.heldTimes (limit : Nat) (r : Gate) (k : Nat) : Gate :=
  { r with
    holdCount := min 255 (r.holdCount + k),
    state := if r.state = .service ∧ limit ≠ 0 ∧ limit ≤ min 255 (r.holdCount + k) then .stale else r.state }

/-- R78: a gate goes STALE once, at the first increase that reaches the limit. -/
theorem heldTimes_heldTimes (limit : Nat) (r : Gate) (j k : Nat) :
    Gate.heldTimes limit (Gate.heldTimes limit r j) k = Gate.heldTimes limit r (j + k) := by
  have hn : min 255 (min 255 (r.holdCount + j) + k) = min 255 (r.holdCount + (j + k)) := by omega
  unfold Gate.heldTimes
  simp only [hn]
  by_cases hs : r.state = .service ∧ limit ≠ 0 ∧ limit ≤ min 255 (r.holdCount + j)
  · obtain ⟨hserv, hlim, hle⟩ := hs
    have hle' : limit ≤ min 255 (r.holdCount + (j + k)) := by omega
    simp [hserv, hlim, hle, hle']
  · rw [if_neg hs]

theorem heldTimes_stale {r : Gate} (h : r.state = .stale) (limit k : Nat) :
    (Gate.heldTimes limit r k).state = .stale := by
  simp [Gate.heldTimes, h]

/-- R82: the hold count rises, or nothing happens. -/
theorem slotNotReached_eq (s : State) (g : GateIx) : State.slotNotReached s g =
    if State.countsMissedSlots s g then
      State.noticeState (State.setGate s g (Gate.heldTimes (holdLimit s.table g) (State.gate s g) 1)) g
        (State.gate s g).state (Gate.heldTimes (holdLimit s.table g) (State.gate s g) 1).state
    else s := rfl

/-- R82: a slot-not-reached event reaches the gate's record and the notices alone. -/
theorem slotNotReached_frame (s : State) (g : GateIx) : State.slotNotReached s g =
    { s with adu := { s.adu with gates := (State.slotNotReached s g).adu.gates },
             ncu := (State.slotNotReached s g).ncu } := by
  rw [slotNotReached_eq]
  split
  · unfold State.noticeState
    split <;> rfl
  · rfl

theorem slotNotReached_table (s : State) (g : GateIx) : (State.slotNotReached s g).table = s.table :=
  (congrArg (fun u => State.table u) (slotNotReached_frame s g)).trans rfl

theorem gate_slotNotReached_self (s : State) (g : GateIx) : State.gate (State.slotNotReached s g) g =
    if State.countsMissedSlots s g then Gate.heldTimes (holdLimit s.table g) (State.gate s g) 1
    else State.gate s g := by
  rw [slotNotReached_eq]
  split
  · rw [gate_noticeState, gate_setGate, if_pos rfl]
  · rfl

theorem gate_slotNotReached_ne (s : State) {g k : GateIx} (h : k ≠ g) :
    State.gate (State.slotNotReached s k) g = State.gate s g := by
  rw [slotNotReached_eq]
  split
  · rw [gate_noticeState, gate_setGate_ne _ _ (Ne.symm h)]
  · rfl

/-- R82: an event lets no gate begin or cease to count its missed slots. -/
theorem countsMissedSlots_slotNotReached (s : State) (k g : GateIx) :
    State.countsMissedSlots (State.slotNotReached s k) g ↔ State.countsMissedSlots s g := by
  have htrip : State.tripped (State.slotNotReached s k) g = State.tripped s g :=
    (congrArg (fun u => State.tripped u g) (slotNotReached_frame s k)).trans rfl
  unfold State.countsMissedSlots
  rw [htrip]
  by_cases hkg : k = g
  · subst hkg
    rw [gate_slotNotReached_self]
    split
    · simp only [Gate.heldTimes]
      split <;> simp_all
    · rfl
  · rw [gate_slotNotReached_ne s hkg]

/-- R78, R32: a gate that goes STALE is reported; otherwise its state stands and nothing is. -/
theorem slotNotReached_reports (s : State) (g : GateIx) :
    ((State.gate s g).state = .service ∧ (State.gate (State.slotNotReached s g) g).state = .stale ∧
      (State.slotNotReached s g).ncu = Ncu.notify s.ncu (.gateState g .stale)) ∨
    ((State.gate (State.slotNotReached s g) g).state = (State.gate s g).state ∧
      (State.slotNotReached s g).ncu = s.ncu) := by
  rw [gate_slotNotReached_self, slotNotReached_eq]
  split
  · by_cases h : (State.gate s g).state = .service ∧ holdLimit s.table g ≠ 0 ∧
        holdLimit s.table g ≤ min 255 ((State.gate s g).holdCount + 1)
    · have hst : (Gate.heldTimes (holdLimit s.table g) (State.gate s g) 1).state = .stale := if_pos h
      refine .inl ⟨h.1, hst, ?_⟩
      rw [noticeState_ncu, hst, h.1]
      rfl
    · have hst : (Gate.heldTimes (holdLimit s.table g) (State.gate s g) 1).state = (State.gate s g).state := if_neg h
      refine .inr ⟨hst, ?_⟩
      rw [noticeState_ncu, hst, if_pos rfl]
      rfl
  · exact .inr ⟨rfl, rfl⟩

/-- R82: a series of events reaches the gates' records and the notices alone. -/
theorem slotsNotReached_frame (l : List GateIx) (s : State) : l.foldl State.slotNotReached s =
    { s with adu := { s.adu with gates := (l.foldl State.slotNotReached s).adu.gates },
             ncu := (l.foldl State.slotNotReached s).ncu } := by
  induction l generalizing s with
  | nil => rfl
  | cons k rest ih =>
    have h := slotNotReached_frame s k
    rw [List.foldl_cons]
    generalize State.slotNotReached s k = v at h ⊢
    refine (ih v).trans ?_
    generalize rest.foldl State.slotNotReached v = w
    rw [h]

/-- R82: a gate's record after a series of events. -/
theorem gate_slotsNotReached (l : List GateIx) (s : State) (g : GateIx) :
    State.gate (l.foldl State.slotNotReached s) g =
      if 0 < l.count g ∧ State.countsMissedSlots s g then
        Gate.heldTimes (holdLimit s.table g) (State.gate s g) (l.count g)
      else State.gate s g := by
  induction l generalizing s with
  | nil => simp
  | cons k rest ih =>
    rw [List.foldl_cons, ih]
    simp only [countsMissedSlots_slotNotReached, slotNotReached_table]
    by_cases hkg : k = g
    · subst hkg
      rw [gate_slotNotReached_self, List.count_cons_self]
      by_cases hm : State.countsMissedSlots s k
      · have hpos : 0 < rest.count k + 1 := Nat.succ_pos _
        rw [if_pos hm, if_pos (c := 0 < rest.count k + 1 ∧ _) ⟨hpos, hm⟩]
        by_cases h0 : 0 < rest.count k
        · rw [if_pos ⟨h0, hm⟩, heldTimes_heldTimes, Nat.add_comm]
        · rw [if_neg (c := 0 < rest.count k ∧ _) (fun h => h0 h.1), Nat.eq_zero_of_not_pos h0]
      · rw [if_neg hm, if_neg (fun h => hm h.2), if_neg (fun h => hm h.2)]
    · rw [gate_slotNotReached_ne s hkg, List.count_cons_of_ne hkg]

/-- R32: the gates that a series of events takes from SERVICE to STALE are reported, each once. -/
theorem slotsNotReached_reports (l : List GateIx) (s : State) : ∃ gs : List GateIx, gs.Nodup ∧
    Ncu.Reported s.ncu (l.foldl State.slotNotReached s).ncu (gs.map (fun g => Notice.gateState g .stale))
      (fun _ => 0) ∧
    ∀ g, g ∈ gs ↔ (State.gate s g).state = .service ∧
      (State.gate (l.foldl State.slotNotReached s) g).state = .stale := by
  induction l generalizing s with
  | nil =>
    refine ⟨[], List.nodup_nil, Ncu.Reported.refl _, fun g => ?_⟩
    simp only [List.not_mem_nil, List.foldl_nil, false_iff, not_and]
    intro h
    simp [h]
  | cons k rest ih =>
    obtain ⟨gs, hnodup, hrep, hmem⟩ := ih (State.slotNotReached s k)
    rw [List.foldl_cons]
    rcases slotNotReached_reports s k with ⟨hserv, hstale, hncu⟩ | ⟨hstate, hncu⟩
    · refine ⟨k :: gs, List.nodup_cons.mpr ⟨fun hk => ?_, hnodup⟩, ?_, fun g => ?_⟩
      · rw [hmem, hstale] at hk
        cases hk.1
      · rw [hncu] at hrep
        exact (reported_notify s.ncu _).trans hrep
      · rw [List.mem_cons, hmem]
        by_cases hkg : g = k
        · subst hkg
          have hend : (State.gate (rest.foldl State.slotNotReached (State.slotNotReached s g)) g).state = .stale := by
            rw [gate_slotsNotReached]
            split
            · exact heldTimes_stale hstale _ _
            · exact hstale
          simp [hserv, hend]
        · rw [gate_slotNotReached_ne s (Ne.symm hkg)]
          simp [hkg]
    · refine ⟨gs, hnodup, hncu ▸ hrep, fun g => ?_⟩
      rw [hmem]
      by_cases hkg : k = g
      · subst hkg
        rw [hstate]
      · rw [gate_slotNotReached_ne s hkg]

/-- R15: how many of a gate's COMMAND slots no frame reached. -/
theorem count_unreached (x : SlotTable) (p : Nat) (g : GateIx) : (SlotTable.unreached x p).count g =
    ((List.range' p (x.count - p)).filter (fun e =>
      decide (SlotTable.role x e = .command) && decide (boundGate (SlotTable.entry x e) = some g))).length := by
  rw [SlotTable.unreached, List.count_filterMap, List.countP_eq_length_filter]
  congr 2
  funext e
  by_cases h : SlotTable.role x e = .command
  · simp only [h, if_true, decide_true, Bool.true_and]
    exact Bool.beq_eq_decide_eq _ _
  · simp [h]

/-- R15: a cycle that is cut short. -/
theorem closeCycle_short {s : State} {x : SlotTable} (hx : s.rpu.active = some x) (h : s.rpu.slotPos < x.count) :
    State.closeCycle s =
      (SlotTable.unreached x s.rpu.slotPos).foldl State.slotNotReached (State.count s .shortCycles) := by
  simp [State.closeCycle, hx, h]

end Sys2Proof.Machine

namespace Sys2Proof.GateRing

open Machine Safety

/-- Settles O18: the unreached slots' events one after another, then the cycle opened as by any marker. -/
theorem shortCycleCountsHolds : Obligations.ShortCycleCountsHolds := by
  unfold Obligations.ShortCycleCountsHolds
  intro s m late x hrun hx hpos
  obtain ⟨hrpu, -, -, -, -⟩ := settle_frame s
  have hclose := closeCycle_short (s := State.settle s) (by rw [hrpu]; exact hx) (by rw [hrpu]; exact hpos)
  rw [hrpu] at hclose
  generalize hu : State.settle s = u at hrpu hclose
  generalize hv : State.closeCycle u = v at hclose
  have hframe := slotsNotReached_frame (SlotTable.unreached x s.rpu.slotPos) (State.count u .shortCycles)
  obtain ⟨gs, hnodup, hrep, hmem⟩ :=
    slotsNotReached_reports (SlotTable.unreached x s.rpu.slotPos) (State.count u .shortCycles)
  have hgate := gate_slotsNotReached (SlotTable.unreached x s.rpu.slotPos) (State.count u .shortCycles)
  rw [← hclose] at hframe hrep hmem hgate
  have hrep' := (reported_count u .shortCycles).trans hrep
  obtain ⟨h1, h2, h3, h4, h5, h6, h7, h8, h9, h10, h11⟩ := opened_spec v m late
  have hexec := exec_cycleMarker (s := s) (by rw [hrun]; decide) m late
  rw [hu, hv] at hexec
  have hncu : (State.opened v m late).ncu = v.ncu := by
    rw [h7, show v.rpu.state = .run by rw [hframe]; exact hrpu ▸ hrun]
    rfl
  have hadu : ∀ g, State.gate (State.opened v m late) g = State.gate v g := fun g => by
    unfold State.gate; rw [h6]
  refine ⟨u, State.opened v m late, gs.map (fun g => Notice.gateState g .stale),
    fun g => (SlotTable.unreached x s.rpu.slotPos).count g, rfl, hu ▸ settled_settle s,
    fun g => count_unreached x _ g, hexec, ?_, ?_, ?_, ?_, ?_, ?_, ?_, ?_, ?_, ?_, ?_, ?_, ?_, ?_, ?_, ?_, ?_⟩
  · rw [h1, hframe]; rfl
  · rw [h2, hframe]; rfl
  · rw [h3, hframe]; rfl
  · rw [h4, hframe]; rfl
  · intro n; rw [h5, hframe]; rfl
  · rw [h6, hframe]; rfl
  · rw [h6, hframe]; rfl
  · rw [h8, hframe]; rfl
  · rw [h9, hframe]; rfl
  · rw [h10, hframe]; rfl
  · rw [h11, hframe]; rfl
  · rw [hncu]
    exact hrep'.countersKept (fun c hc => by simp [onlyCounter, List.mem_singleton.not.mp hc])
  · rw [hncu]; exact hrep'.queue
  · rw [hncu]; exact hrep'.lost
  · refine List.Perm.map _ ((List.perm_ext_iff_of_nodup hnodup ((List.nodup_finRange 24).filter _)).mpr fun g => ?_)
    rw [hmem, List.mem_filter]
    simp only [List.mem_finRange, true_and, hadu, Bool.and_eq_true, decide_eq_true_eq]
    rfl
  · have h := hrep'.station .shortCycles
    rw [← hncu] at h
    exact h.trans (by simp [onlyCounter, raised, State.counter])
  · intro g
    rw [hadu, hgate]
    rfl

end Sys2Proof.GateRing

namespace Sys2Proof.Machine

open Safety

/-! ### The gap count's part of a tick (R16) -/

/-- R16, R19: the gap count's part of a tick: not taken, or the ring is lost, or the count rises and no more. -/
theorem tickOnce_gap (s : State) :
    ((s.rpu.state = .load ∨ TickPart.gap ∈ s.handed.ticked) ∧ State.tickOnce s .gap = s) ∨
    (s.rpu.state ≠ .load ∧ TickPart.gap ∉ s.handed.ticked ∧
      ((s.rpu.state = .run ∨ s.rpu.state = .sync) ∧ ringLossLimit s.tst.table ≤ min 65535 (s.rpu.gap + 1)) ∧
      State.tickOnce s .gap = State.count { s with rpu := { s.rpu with
        gap := min 65535 (s.rpu.gap + 1), state := .ringLost, active := none } } .ringLosses) ∨
    (s.rpu.state ≠ .load ∧ TickPart.gap ∉ s.handed.ticked ∧
      ¬ ((s.rpu.state = .run ∨ s.rpu.state = .sync) ∧ ringLossLimit s.tst.table ≤ min 65535 (s.rpu.gap + 1)) ∧
      State.tickOnce s .gap = { s with rpu := { s.rpu with gap := min 65535 (s.rpu.gap + 1) } }) := by
  by_cases hmem : TickPart.gap ∈ s.handed.ticked
  · exact .inl ⟨.inr hmem, by simp [State.tickOnce, hmem]⟩
  have hpart : State.tickOnce s .gap = State.tickPart s .gap := by simp [State.tickOnce, hmem]
  rw [hpart, State.tickPart]
  by_cases hload : s.rpu.state = .load
  · refine .inl ⟨.inl hload, ?_⟩
    rw [raise_gap_load hload, if_neg]
    rw [expired_gap, hload]
    simp
  · refine .inr ?_
    rw [raise_gap hload]
    by_cases hexp : (s.rpu.state = .run ∨ s.rpu.state = .sync) ∧
        ringLossLimit s.tst.table ≤ min 65535 (s.rpu.gap + 1)
    · exact .inl ⟨hload, hmem, hexp, if_pos ((expired_gap _).mpr hexp)⟩
    · exact .inr ⟨hload, hmem, hexp, if_neg (fun h => hexp ((expired_gap _).mp h))⟩

/-! ### The counts of a port (R104 to R106, R110 to R113) -/

/-- One port and the notices and counters alone change: the port's record, the notices it hands on, and how many
messages it drops. -/
structure PortPart (p : Port) (s t : State) (r : LinkPort) (l : List Notice) (k : Nat) : Prop where
  state : t = { State.setPort s p r with ncu := t.ncu }
  reported : Ncu.Reported s.ncu t.ncu l (onlyCounter .linkTimeouts k)

theorem onlyCounter_zero (c : Counter) : onlyCounter c 0 = fun _ => 0 := by
  funext d
  simp [onlyCounter]

theorem onlyCounter_add (c : Counter) (j k : Nat) :
    (fun d => onlyCounter c j d + onlyCounter c k d) = onlyCounter c (j + k) := by
  funext d
  unfold onlyCounter
  split <;> rfl

@[simp] theorem port_notify (s : State) (n : Notice) (p : Port) : State.port (State.notify s n) p = State.port s p := by
  cases p <;> rfl

@[simp] theorem setPort_port (s : State) (p : Port) : State.setPort s p (State.port s p) = s := by cases p <;> rfl

theorem PortPart.refl (p : Port) (s : State) : PortPart p s s (State.port s p) [] 0 :=
  ⟨by rw [setPort_port], onlyCounter_zero _ ▸ Ncu.Reported.refl s.ncu⟩

/-- A port's record replaced, and nothing reported. -/
theorem PortPart.ofSetPort (p : Port) (s : State) (r : LinkPort) : PortPart p s (State.setPort s p r) r [] 0 :=
  ⟨by cases p <;> rfl, by rw [State.setPort_ncu, onlyCounter_zero]; exact Ncu.Reported.refl s.ncu⟩

theorem PortPart.trans {p : Port} {s t u : State} {r r' : LinkPort} {l l' : List Notice} {k k' : Nat}
    (h : PortPart p s t r l k) (h' : PortPart p t u r' l' k') : PortPart p s u r' (l ++ l') (k + k') where
  state := by
    have e := h'.state
    rw [h.state] at e
    cases p <;> exact e
  reported := onlyCounter_add _ _ _ ▸ h.reported.trans h'.reported

theorem PortPart.port_eq {p : Port} {s t : State} {r : LinkPort} {l : List Notice} {k : Nat} (h : PortPart p s t r l k) :
    State.port t p = r := by
  rw [h.state]
  cases p <;> rfl

theorem PortPart.port_ne {p q : Port} {s t : State} {r : LinkPort} {l : List Notice} {k : Nat}
    (h : PortPart p s t r l k) (hq : q ≠ p) : State.port t q = State.port s q := by
  rw [h.state]
  exact port_setPort_ne s r hq

/-- What the counts of a port leave alone. -/
theorem PortPart.frame {p : Port} {s t : State} {r : LinkPort} {l : List Notice} {k : Nat} (h : PortPart p s t r l k) :
    t.rpu = s.rpu ∧ t.adu = s.adu ∧ t.scu = s.scu ∧ t.clu.arrivals = s.clu.arrivals ∧ t.clu.inflow = s.clu.inflow ∧
    t.sqe = s.sqe ∧ t.spu = s.spu ∧ t.mgu = s.mgu ∧ t.tst = s.tst ∧ t.handed = s.handed ∧ t.pending = s.pending := by
  rw [h.state]
  simp

/-- A notice handed on. -/
theorem PortPart.ofNotify (p : Port) (s : State) (n : Notice) : PortPart p s (State.notify s n) (State.port s p) [n] 0 :=
  ⟨by rw [setPort_port]; rfl, by rw [onlyCounter_zero]; exact reported_notify s.ncu n⟩

/-- A message given up. -/
theorem PortPart.ofCount (p : Port) (s : State) :
    PortPart p s (State.count s .linkTimeouts) (State.port s p) [] 1 :=
  ⟨by rw [setPort_port]; rfl, reported_count s .linkTimeouts⟩

theorem PortPart.ofCountIf (p : Port) (s : State) (b : Bool) :
    PortPart p s (State.countIf s b .linkTimeouts) (State.port s p) [] (if b then 1 else 0) := by
  cases b
  · exact PortPart.refl p s
  · exact PortPart.ofCount p s

/-- R110: what a port drops is counted. -/
theorem PortPart.ofDrops (p : Port) (s : State) (r : LinkPort) :
    PortPart p s (State.dropCounts s r) (State.port s p) []
      (r.register.toList.length + r.deferred.toList.length) := by
  have len : ∀ {α : Type} (o : Option α), (if o.isSome then 1 else 0) = o.toList.length := fun o => by cases o <;> rfl
  have h := (PortPart.ofCountIf p s r.register.isSome).trans
    (PortPart.ofCountIf p (State.countIf s r.register.isSome .linkTimeouts) r.deferred.isSome)
  rw [len, len, (PortPart.ofCountIf p s r.register.isSome).port_eq] at h
  exact h

/-- R110: an UP port goes DOWN. -/
theorem PortPart.ofDown (p : Port) (s : State) :
    PortPart p s (State.portDown s p) (LinkPort.cleared { State.port s p with state := .down }) [.link p .down]
      ((State.port s p).register.toList.length + (State.port s p).deferred.toList.length) := by
  have h := ((PortPart.ofSetPort p s (LinkPort.cleared { State.port s p with state := .down })).trans
    (PortPart.ofNotify p _ (.link p .down))).trans (PortPart.ofDrops p _ (State.port s p))
  simpa [State.portDown] using h

/-- R104, R110: the silence count's part of a tick. -/
theorem tickPart_silence (p : Port) (s : State) :
    PortPart p s (State.tickPart s (.silence p)) (silenceTicked s.tst.table (State.port s p))
      (if silenceExpires s.tst.table (State.port s p) then [.link p .down] else [])
      (if silenceExpires s.tst.table (State.port s p) then
        (State.port s p).register.toList.length + (State.port s p).deferred.toList.length else 0) := by
  by_cases habs : (State.port s p).state = .absent
  · have hno : silenceExpires s.tst.table (State.port s p) = false := by simp [silenceExpires, habs]
    have e : State.tickPart s (.silence p) = s := by simp [State.tickPart, State.raise, State.expired, habs]
    simpa [silenceTicked, habs, hno, e] using PortPart.refl p s
  · have hraise := PortPart.ofSetPort p s { State.port s p with silence := min 65535 ((State.port s p).silence + 1) }
    have e : State.tickPart s (.silence p) =
        (let u := State.setPort s p { State.port s p with silence := min 65535 ((State.port s p).silence + 1) }
         if silenceExpires s.tst.table (State.port s p) then State.portDown u p else u) := by
      simp [State.tickPart, State.raise, State.expired, State.expire, State.table, silenceExpires, habs, satAdd]
    by_cases hexp : silenceExpires s.tst.table (State.port s p) = true
    · simpa [e, silenceTicked, habs, hexp, LinkPort.cleared] using hraise.trans (PortPart.ofDown p _)
    · simpa [e, silenceTicked, habs, hexp] using hraise

/-- R113: when the TAKEN count of a port expires, it is that of an outstanding message that has left. -/
theorem takenExpires_eq (t : WordStore) (r : LinkPort) : takenExpires t r =
    (LinkPort.outstandingLeft r && decide (takenTimeoutLimit t ≤ r.takenCount + 1)) := by
  unfold takenExpires LinkPort.outstandingLeft
  rcases r.register with _ | ⟨_, _, _ | _ | _⟩ <;> rfl

/-- R111 to R113: a port after its TAKEN count's part of a tick. -/
theorem takenTicked_eq (t : WordStore) (r : LinkPort) : takenTicked t r =
    if LinkPort.outstandingLeft r then
      if takenExpires t r then LinkPort.promote { r with takenCount := r.takenCount + 1 }
      else { r with takenCount := r.takenCount + 1 }
    else r := by
  unfold takenTicked LinkPort.outstandingLeft LinkPort.promote
  rcases r.register with _ | ⟨_, _, _ | _ | _⟩
  · rfl
  · rfl
  · rfl
  · rfl

/-- R111 to R113: the TAKEN count's part of a tick. -/
theorem tickPart_taken (p : Port) (s : State) :
    PortPart p s (State.tickPart s (.taken p)) (takenTicked s.tst.table (State.port s p)) []
      (if takenExpires s.tst.table (State.port s p) then 1 else 0) := by
  rw [takenTicked_eq]
  by_cases hleft : LinkPort.outstandingLeft (State.port s p) = true
  · have hraise := PortPart.ofSetPort p s { State.port s p with takenCount := (State.port s p).takenCount + 1 }
    have hleft' : LinkPort.outstandingLeft { State.port s p with takenCount := (State.port s p).takenCount + 1 } = true :=
      hleft
    have e : State.tickPart s (.taken p) =
        (let u := State.setPort s p { State.port s p with takenCount := (State.port s p).takenCount + 1 }
         if takenExpires s.tst.table (State.port s p) then State.takenExpiry u p else u) := by
      simp [State.tickPart, State.raise, State.expired, State.expire, State.table, takenExpires_eq, hleft, hleft']
    by_cases hexp : takenExpires s.tst.table (State.port s p) = true
    · have hgive := (hraise.trans (PortPart.ofSetPort p _ (LinkPort.promote
        { State.port s p with takenCount := (State.port s p).takenCount + 1 }))).trans (PortPart.ofCount p _)
      simpa [e, hleft, hexp, State.takenExpiry] using hgive
    · simpa [e, hleft, hexp] using hraise
  · have hno : takenExpires s.tst.table (State.port s p) = false := by simp [takenExpires_eq, hleft]
    have e : State.tickPart s (.taken p) = s := by simp [State.tickPart, State.raise, State.expired, hleft]
    simpa [hleft, hno, e] using PortPart.refl p s

/-- R106: the part of a tick that a port's BEACONs take. -/
theorem tickPart_beacon (p : Port) (s : State) :
    PortPart p s (State.tickPart s (.beacon p)) (beaconTicked (State.port s p)) [] 0 := by
  by_cases habs : (State.port s p).state = .absent
  · have e : State.tickPart s (.beacon p) = s := by simp [State.tickPart, State.raise, State.expired, habs]
    simpa [beaconTicked, habs, e] using PortPart.refl p s
  · have e : State.tickPart s (.beacon p) = State.setPort s p (beaconTicked (State.port s p)) := by
      by_cases hdue : 100 ≤ (State.port s p).beaconTimer + 1
      · simp [State.tickPart, State.raise, State.expired, State.expire, State.beaconDue, beaconTicked, habs, hdue]
      · simp [State.tickPart, State.raise, State.expired, beaconTicked, habs, hdue]
    exact e ▸ PortPart.ofSetPort p s _

/-- A part of a tick, unless a command has taken it already. -/
theorem PortPart.once {p : Port} {s : State} {x : TickPart} {r : LinkPort} {l : List Notice} {k : Nat}
    (h : PortPart p s (State.tickPart s x) r l k) :
    PortPart p s (State.tickOnce s x) (if s.handed.ticked.contains x then State.port s p else r)
      (if s.handed.ticked.contains x then [] else l) (if s.handed.ticked.contains x then 0 else k) := by
  unfold State.tickOnce
  cases s.handed.ticked.contains x
  · exact h
  · exact PortPart.refl p s

/-- What a part adds that is taken unless `b` and acts when `e`. -/
theorem ite_unless {α : Type} (b e : Bool) (x y : α) :
    (if b then x else if e then y else x) = if !b && e then y else x := by
  cases b <;> rfl

/-- The counts of one port in a tick (log 17). -/
def portParts (p : Port) : List TickPart := [.silence p, .taken p, .beacon p]

/-- The port goes DOWN at this tick. -/
def silenced (s : State) (p : Port) : Bool :=
  !s.handed.ticked.contains (.silence p) && silenceExpires s.tst.table (State.port s p)

/-- R104 to R106, R110 to R113: every count of one port in a tick. -/
theorem tickParts_port (p : Port) (s : State) :
    PortPart p s ((portParts p).foldl State.tickOnce s)
      (portTicked s.tst.table s.handed.ticked p (State.port s p))
      (if silenced s p then [.link p .down] else [])
      (portDrops s.tst.table s.handed.ticked p (State.port s p)) := by
  have hsilence := (tickPart_silence p s).once
  have htaken := (tickPart_taken p (State.tickOnce s (.silence p))).once
  have hbeacon := (tickPart_beacon p (State.tickOnce (State.tickOnce s (.silence p)) (.taken p))).once
  obtain ⟨-, -, -, -, -, -, -, -, htst, hhanded, -⟩ := hsilence.frame
  obtain ⟨-, -, -, -, -, -, -, -, -, hhanded', -⟩ := htaken.frame
  have h := (hsilence.trans htaken).trans hbeacon
  simp only [htaken.port_eq, hsilence.port_eq, hhanded', hhanded, htst, ite_unless, ite_self, List.append_nil,
    Nat.add_zero] at h
  exact h

/-- The notices of the ports that go DOWN at this tick. -/
def downNotices (s : State) : List Notice := ([Port.up, .down].filter (silenced s)).map (fun p => .link p .down)

/-- R104 to R106, R110 to R113: every count of both ports in a tick. -/
theorem tickParts_ports (s : State) {t : State} (ht : t = (portParts .up ++ portParts .down).foldl State.tickOnce s) :
    t = { s with clu := { s.clu with up := t.clu.up, down := t.clu.down }, ncu := t.ncu } ∧
    (∀ p, State.port t p = portTicked s.tst.table s.handed.ticked p (State.port s p)) ∧
    Ncu.Reported s.ncu t.ncu (downNotices s) (onlyCounter .linkTimeouts
      (portDrops s.tst.table s.handed.ticked .up s.clu.up + portDrops s.tst.table s.handed.ticked .down s.clu.down)) := by
  rw [List.foldl_append] at ht
  have hup := tickParts_port .up s
  generalize (portParts .up).foldl State.tickOnce s = a at hup ht
  have hdown := tickParts_port .down a
  rw [← ht] at hdown
  obtain ⟨-, -, -, -, -, -, -, -, htst, hhanded, -⟩ := hup.frame
  have hport : State.port a .down = State.port s .down := hup.port_ne (by decide)
  have hsil : silenced a .down = silenced s .down := by simp only [silenced, htst, hhanded, hport]
  rw [htst, hhanded, hport, hsil] at hdown
  refine ⟨?_, fun p => ?_, ?_⟩
  · have e := hdown.state
    rw [hup.state] at e
    rw [e]
    rfl
  · cases p with
    | up => rw [hdown.port_ne (by decide), hup.port_eq]
    | down => exact hdown.port_eq
  · have h := hup.reported.trans hdown.reported
    have hl : (if silenced s .up then [Notice.link .up .down] else []) ++
        (if silenced s .down then [Notice.link .down .down] else []) = downNotices s := by
      unfold downNotices
      cases h1 : silenced s .up <;> cases h2 : silenced s .down <;> simp [h1, h2]
    rw [onlyCounter_add, hl] at h
    exact h

/-! ### The panel inputs (R147) -/

@[simp] theorem setPanel_panel (s : State) (i : PanelInput) : State.setPanel s i (State.panel s i) = s := by
  simp [State.setPanel, State.panel, Vector.set_getElem_self]

theorem PanelInput.ix_injective {i j : PanelInput} (h : PanelInput.ix i = PanelInput.ix j) : i = j := by
  have hv : (PanelInput.ix i).val = (PanelInput.ix j).val := congrArg Fin.val h
  cases i with
  | trip u =>
    cases j with
    | trip v => exact congrArg PanelInput.trip (Fin.ext (Nat.add_right_cancel hv))
    | floodAlarm | maintEnable => simp [PanelInput.ix] at hv
  | floodAlarm | maintEnable => cases j <;> simp [PanelInput.ix] at hv ⊢

theorem panel_setPanel_ne (s : State) {i j : PanelInput} (r : PanelLine) (h : j ≠ i) :
    State.panel (State.setPanel s i r) j = State.panel s j := by
  have hne : (PanelInput.ix i).val ≠ (PanelInput.ix j).val := fun e => h (PanelInput.ix_injective (Fin.ext e.symm))
  simp [State.panel, State.setPanel, hne]

/-- R148: nothing is sampled while RESET_N is asserted. -/
theorem tickPart_sample_asserted {s : State} (h : s.tst.resetAsserted = true) (i : PanelInput) :
    State.tickPart s (.sample i) = s := by
  rcases tickPart_sample s i with ⟨-, e⟩ | ⟨hr, -⟩ | ⟨hr, -⟩
  · exact e
  · rw [h] at hr; cases hr
  · rw [h] at hr; cases hr

/-- R147: one sample, and what its change brings about, reaches the panel record of its own input alone. -/
theorem tickPart_sample_inputs {s : State} (h : s.tst.resetAsserted = false) (i : PanelInput) :
    (State.tickPart s (.sample i)).spu = (State.setPanel s i (panelSampled (State.panel s i))).spu := by
  rcases tickPart_sample s i with ⟨hr, -⟩ | ⟨-, -, e⟩ | ⟨-, -, -, e⟩
  · rw [h] at hr; cases hr
  · rw [e]
  · rw [e]
    split
    · rfl
    · simp [handInput_frame]

/-- R147: an input's sample, unless a command has taken it already, is what PANEL_INPUT_CHANGE at its own pin's level
does. -/
theorem inputTicked_tickOnce (i : PanelInput) (s : State) : InputTicked i s (State.tickOnce s (.sample i)) := by
  have hexec : exec (.panelInputChange i (State.panel s i).pin true) s =
      .next (if s.tst.resetAsserted then s else State.takeAhead s (.sample i)) := by
    have e : exec (.panelInputChange i (State.panel s i).pin true) s =
      .next (State.driveInput s i (State.panel s i).pin true) := rfl
    rw [e, State.driveInput, show State.setPanel s i { State.panel s i with pin := (State.panel s i).pin } = s from
      setPanel_panel s i]
    cases s.tst.resetAsserted <;> rfl
  refine ⟨_, hexec, ?_⟩
  obtain ⟨-, -, -, hhanded, -⟩ := tickPart_sample_frame s i
  rcases takeAhead_cases s (.sample i) with ⟨hmem, e⟩ | ⟨hmem, e⟩
  · have ht : State.tickOnce s (.sample i) = s := by simp [State.tickOnce, hmem]
    rw [ht, e, ite_self]
  · have ht : State.tickOnce s (.sample i) = State.tickPart s (.sample i) := by simp [State.tickOnce, hmem]
    rw [ht, e]
    cases hr : s.tst.resetAsserted with
    | true => rw [tickPart_sample_asserted hr]; rfl
    | false =>
      rw [hhanded]
      exact (congrArg (fun h => { State.tickPart s (.sample i) with handed := h }) hhanded.symm).symm

/-- R147: the samples of a list of inputs, one after another. -/
theorem inputsTicked_foldl (l : List PanelInput) (s : State) :
    InputsTicked l s ((l.map TickPart.sample).foldl State.tickOnce s) := by
  induction l generalizing s with
  | nil => rfl
  | cons i rest ih => exact ⟨_, inputTicked_tickOnce i s, ih _⟩

/-- R147: what an input's sample leaves alone. -/
theorem tickOnce_sample_frame (s : State) (i : PanelInput) :
    (State.tickOnce s (.sample i)).rpu = s.rpu ∧ (State.tickOnce s (.sample i)).tst = s.tst ∧
    (State.tickOnce s (.sample i)).handed = s.handed ∧ (State.tickOnce s (.sample i)).pending = s.pending := by
  unfold State.tickOnce
  split
  · exact ⟨rfl, rfl, rfl, rfl⟩
  · obtain ⟨hrpu, htst, -, hhanded, hpending⟩ := tickPart_sample_frame s i
    exact ⟨hrpu, htst, hhanded, hpending⟩

/-- R147: the panel records after an input's sample. -/
theorem panel_tickOnce_sample (s : State) (i j : PanelInput) :
    State.panel (State.tickOnce s (.sample i)) j = if j = i then panelTicked s j else State.panel s j := by
  by_cases hmem : TickPart.sample i ∈ s.handed.ticked
  · have ht : State.tickOnce s (.sample i) = s := by simp [State.tickOnce, hmem]
    rw [ht]
    split
    · subst_vars
      simp [panelTicked, hmem]
    · rfl
  have ht : State.tickOnce s (.sample i) = State.tickPart s (.sample i) := by simp [State.tickOnce, hmem]
  rw [ht]
  cases hr : s.tst.resetAsserted with
  | true =>
    rw [tickPart_sample_asserted hr]
    simp [panelTicked, hr]
  | false =>
    have hspu := tickPart_sample_inputs hr i
    rw [State.panel, hspu, ← State.panel]
    split
    · subst_vars
      rw [panel_setPanel_self]
      simp [panelTicked, hmem, hr]
    · exact panel_setPanel_ne s _ ‹_›

/-- R147: what a tick makes of an input's record goes by that record, the parts taken ahead, and RESET_N. -/
theorem panelTicked_congr {s t : State} {i : PanelInput} (ht : t.handed.ticked = s.handed.ticked)
    (hr : t.tst.resetAsserted = s.tst.resetAsserted) (hp : State.panel t i = State.panel s i) :
    panelTicked t i = panelTicked s i := by
  simp only [panelTicked, ht, hr, hp]

/-- R147: the panel records after the samples of a list of inputs, each sampled once. -/
theorem panel_samples {l : List PanelInput} (h : l.Nodup) (s : State) (j : PanelInput) :
    State.panel ((l.map TickPart.sample).foldl State.tickOnce s) j =
      if j ∈ l then panelTicked s j else State.panel s j := by
  induction l generalizing s with
  | nil => rfl
  | cons i rest ih =>
    obtain ⟨hi, hrest⟩ := List.nodup_cons.mp h
    obtain ⟨-, htst, hhanded, -⟩ := tickOnce_sample_frame s i
    rw [List.map_cons, List.foldl_cons, ih hrest]
    by_cases hji : j = i
    · subst hji
      rw [if_neg hi, panel_tickOnce_sample, if_pos rfl, if_pos List.mem_cons_self]
    · have hp : State.panel (State.tickOnce s (.sample i)) j = State.panel s j := by
        rw [panel_tickOnce_sample, if_neg hji]
      rw [panelTicked_congr (by rw [hhanded]) (by rw [htst]) hp, hp]
      simp [hji]

theorem mem_allInputs (i : PanelInput) : i ∈ allInputs := by
  cases i with
  | floodAlarm => decide
  | maintEnable => decide
  | trip u => revert u; decide

end Sys2Proof.Machine

namespace Sys2Proof.Machine

open Safety

/-! ### The whole tick (00 section 5.2) -/

/-- R16: the gap count's part of a tick, with how often it counts RING_LOSSES. -/
theorem gap_ticked (s : State) : ∃ k,
    State.tickOnce s .gap =
      { s with rpu := (State.tickOnce s .gap).rpu, ncu := (State.tickOnce s .gap).ncu } ∧
    Ncu.Reported s.ncu (State.tickOnce s .gap).ncu [] (onlyCounter .ringLosses k) ∧
    (s.rpu.state = .load ∨ TickPart.gap ∈ s.handed.ticked → (State.tickOnce s .gap).rpu = s.rpu) ∧
    (s.rpu.state ≠ .load → TickPart.gap ∉ s.handed.ticked →
      ((s.rpu.state = .run ∨ s.rpu.state = .sync) → ringLossLimit s.tst.table ≤ min 65535 (s.rpu.gap + 1) →
        (State.tickOnce s .gap).rpu =
          { s.rpu with gap := min 65535 (s.rpu.gap + 1), state := .ringLost, active := none } ∧ k = 1) ∧
      (s.rpu.state = .ringLost ∨ min 65535 (s.rpu.gap + 1) < ringLossLimit s.tst.table →
        (State.tickOnce s .gap).rpu = { s.rpu with gap := min 65535 (s.rpu.gap + 1) } ∧ k = 0)) := by
  rcases tickOnce_gap s with ⟨hno, e⟩ | ⟨hload, hmem, ⟨hst, hlim⟩, e⟩ | ⟨hload, hmem, hexp, e⟩
  · rw [e]
    refine ⟨0, rfl, onlyCounter_zero _ ▸ Ncu.Reported.refl s.ncu, fun _ => rfl, fun hload hmem => ?_⟩
    exact absurd hno (not_or.mpr ⟨hload, hmem⟩)
  · rw [e]
    refine ⟨1, rfl, reported_count _ _, fun h => absurd h (not_or.mpr ⟨hload, hmem⟩), fun _ _ =>
      ⟨fun _ _ => ⟨rfl, rfl⟩, fun h => ?_⟩⟩
    rcases h with h | h
    · rw [h] at hst
      simp at hst
    · exact absurd hlim (Nat.not_le.mpr h)
  · rw [e]
    exact ⟨0, rfl, onlyCounter_zero _ ▸ Ncu.Reported.refl s.ncu,
      fun h => absurd h (not_or.mpr ⟨hload, hmem⟩), fun _ _ => ⟨fun hst hlim => absurd ⟨hst, hlim⟩ hexp,
      fun _ => ⟨rfl, rfl⟩⟩⟩

/-- R105: what a transmitter's turn leaves alone. -/
theorem transmit_frame (s : State) (p : Port) :
    (State.transmit s p).rpu = s.rpu ∧ (State.transmit s p).spu = s.spu ∧ (State.transmit s p).tst = s.tst ∧
    (State.transmit s p).handed = s.handed ∧ (State.transmit s p).pending = s.pending := by
  unfold State.transmit
  dsimp only
  split <;> simp

/-- R147: what the samples of a tick leave alone. -/
theorem samples_frame (l : List PanelInput) (s : State) :
    ((l.map TickPart.sample).foldl State.tickOnce s).rpu = s.rpu ∧
    ((l.map TickPart.sample).foldl State.tickOnce s).pending = s.pending := by
  rw [List.foldl_map]
  exact ⟨foldl_keeps State.rpu (fun u i => (tickOnce_sample_frame u i).1) l s,
    foldl_keeps State.pending (fun u i => (tickOnce_sample_frame u i).2.2.2) l s⟩

/-- R16, R104 to R106, R110 to R113: the counts of a tick, block by block. -/
theorem tickParts_spec (u : State) {w : State} (hw : w = tickParts.foldl State.tickOnce u) : ∃ k,
    w = { u with
      rpu := w.rpu,
      clu := { u.clu with up := w.clu.up, down := w.clu.down },
      ncu := w.ncu } ∧
    (∀ p, State.port w p = portTicked u.tst.table u.handed.ticked p (State.port u p)) ∧
    Ncu.Reported u.ncu w.ncu (downNotices u) (fun c => onlyCounter .ringLosses k c +
      onlyCounter .linkTimeouts (portDrops u.tst.table u.handed.ticked .up u.clu.up +
        portDrops u.tst.table u.handed.ticked .down u.clu.down) c) ∧
    (u.rpu.state = .load ∨ TickPart.gap ∈ u.handed.ticked → w.rpu = u.rpu) ∧
    (u.rpu.state ≠ .load → TickPart.gap ∉ u.handed.ticked →
      ((u.rpu.state = .run ∨ u.rpu.state = .sync) → ringLossLimit u.tst.table ≤ min 65535 (u.rpu.gap + 1) →
        w.rpu =
          { u.rpu with gap := min 65535 (u.rpu.gap + 1), state := .ringLost, active := none } ∧ k = 1) ∧
      (u.rpu.state = .ringLost ∨ min 65535 (u.rpu.gap + 1) < ringLossLimit u.tst.table →
        w.rpu = { u.rpu with gap := min 65535 (u.rpu.gap + 1) } ∧ k = 0)) := by
  obtain ⟨k, ha, hrep, hload, hgap⟩ := gap_ticked u
  have hparts : tickParts = .gap :: (portParts .up ++ portParts .down) := rfl
  rw [hparts, List.foldl_cons] at hw
  generalize State.tickOnce u .gap = a at ha hrep hload hgap hw ⊢
  obtain ⟨hw, hport, hrep'⟩ := tickParts_ports a hw
  have hrpu : w.rpu = a.rpu := (congrArg State.rpu hw).trans rfl
  have hclu : a.clu = u.clu := (congrArg State.clu ha).trans rfl
  have htst : a.tst = u.tst := (congrArg State.tst ha).trans rfl
  have hhanded : a.handed = u.handed := (congrArg State.handed ha).trans rfl
  have hports : ∀ p, State.port a p = State.port u p := fun p => by cases p <;> simp only [State.port, hclu]
  have hsil : silenced a = silenced u := by
    funext p
    simp only [silenced, htst, hhanded, hports]
  have hdown : downNotices a = downNotices u := by rw [downNotices, hsil, downNotices]
  rw [← hrpu] at ha hload hgap
  refine ⟨k, ?_, fun p => ?_, ?_, hload, hgap⟩
  · rw [ha] at hw
    exact hw
  · rw [hport, htst, hhanded, hports]
  · have h := hrep.trans hrep'
    rw [hdown, htst, hhanded, hclu] at h
    exact h

end Sys2Proof.Machine

namespace Sys2Proof.GateRing

open Machine Safety

/-- Settles O2: the tick in its parts, the counts, the transmitters and the samples, on the settled state. -/
theorem idleStepIsOneTick : Obligations.IdleStepIsOneTick := by
  unfold Obligations.IdleStepIsOneTick
  intro s hpend
  have hstep : step s = .next (State.tick s) := by
    unfold step
    rw [hpend]
  obtain ⟨hurpu, huin, hutst, hupend, huhanded⟩ := settle_frame s
  have hsettled := settled_settle s
  have hnothing : ∀ done, s.handed = { ticked := done } → State.settle s = s := fun _ => settle_of_nothing_owed
  unfold State.tick at hstep
  dsimp only at hstep
  generalize State.settle s = u at *
  obtain ⟨k, hw, hport, hrep, hload, hgap⟩ := tickParts_spec u rfl
  generalize tickParts.foldl State.tickOnce u = w at *
  have hxruns : Runs [.linkTransmit .up, .linkTransmit .down] w (bothPorts.foldl State.transmit w) :=
    ⟨_, rfl, _, rfl, rfl⟩
  have hxrpu := foldl_keeps State.rpu (fun v p => (transmit_frame v p).1) bothPorts w
  have hxspu := foldl_keeps State.spu (fun v p => (transmit_frame v p).2.1) bothPorts w
  have hxtst := foldl_keeps State.tst (fun v p => (transmit_frame v p).2.2.1) bothPorts w
  have hxhanded := foldl_keeps State.handed (fun v p => (transmit_frame v p).2.2.2.1) bothPorts w
  have hxpend := foldl_keeps State.pending (fun v p => (transmit_frame v p).2.2.2.2) bothPorts w
  generalize bothPorts.foldl State.transmit w = x at *
  have hyruns := inputsTicked_foldl allInputs x
  obtain ⟨hyrpu, hypend⟩ := samples_frame allInputs x
  have hypanel := panel_samples (l := allInputs) (by decide) x
  have hparts : sampleParts = allInputs.map TickPart.sample := rfl
  rw [hparts] at hstep
  generalize (allInputs.map TickPart.sample).foldl State.tickOnce x = y at *
  have hwtst : w.tst = u.tst := (congrArg State.tst hw).trans rfl
  have hwhanded : w.handed = u.handed := (congrArg State.handed hw).trans rfl
  have hwspu : w.spu = u.spu := (congrArg State.spu hw).trans rfl
  have hwpend : w.pending = u.pending := (congrArg State.pending hw).trans rfl
  have htrpu : (State.endTick y).rpu = w.rpu := hyrpu.trans hxrpu
  have hqueue : ∀ v : Ncu, (downNotices u).foldl Ncu.notify v =
      ([Port.up, .down].filter (silenced u)).foldl (fun n p => Ncu.notify n (.link p .down)) v := fun v => by
    rw [downNotices, List.foldl_map]
  have hticked : u.handed.ticked = s.handed.ticked := by rw [huhanded]
  have hcounter : ∀ c, State.counter w c = raised (State.counter u c) (onlyCounter .ringLosses k c +
      onlyCounter .linkTimeouts (portDrops u.tst.table u.handed.ticked .up u.clu.up +
        portDrops u.tst.table u.handed.ticked .down u.clu.down) c) := hrep.station
  rw [← hurpu, ← hutst, ← hticked]
  refine ⟨u, w, x, y, State.endTick y, hstep, ?_, rfl, rfl, hsettled, hnothing, ?_, ?_, hport, ?_, ?_, ?_, htrpu.symm,
    ?_, ?_, ?_, ?_, ?_, ?_, ?_, hwspu, ?_, hwtst, hwhanded, hxruns, hyruns, fun i => ?_⟩
  · exact (((hypend.trans hxpend).trans hwpend).trans hupend).trans hpend
  · exact fun h => htrpu.trans (hload h)
  · intro hnload hmem
    obtain ⟨hlost, hkept⟩ := hgap hnload hmem
    refine ⟨fun hst hlim => ?_, fun h => ?_⟩
    · obtain ⟨hwrpu, rfl⟩ := hlost hst hlim
      refine ⟨htrpu.trans hwrpu, ?_, ?_⟩
      · rw [State.ringFault, htrpu, hwrpu]
        rfl
      · rw [hcounter]
        simp [onlyCounter, raised]
    · obtain ⟨hwrpu, rfl⟩ := hkept h
      refine ⟨htrpu.trans hwrpu, ?_⟩
      rw [hcounter]
      simp [onlyCounter]
  · exact hrep.queue.trans (congrArg Ncu.queue (hqueue u.ncu))
  · exact hrep.lost.trans (congrArg Ncu.lost (hqueue u.ncu))
  · refine hrep.countersKept fun c hc => ?_
    rw [List.mem_cons, List.mem_singleton, not_or] at hc
    simp [onlyCounter, hc]
  · rw [hcounter]
    simp [onlyCounter]
  · intro c hring hlink
    rw [hcounter]
    simp [onlyCounter, hring, hlink]
  · rw [hw]
  · rw [hw]
  · rw [hw]
  · rw [hw]
  · rw [hw]
  · rw [hw]
  · have hpanel : State.panel x i = State.panel s i := by
      rw [State.panel, hxspu, hwspu, huin, ← State.panel]
    have h := hypanel i
    rw [if_pos (mem_allInputs i)] at h
    refine Eq.trans h (panelTicked_congr ?_ ?_ hpanel)
    · rw [hxhanded, hwhanded, hticked]
    · rw [hxtst, hwtst, hutst]

end Sys2Proof.GateRing

namespace Sys2Proof.Machine

open Safety

/-! ### The stages of an admission (R43 to R56) -/

/-- R38: the search of Up stays on its way. -/
theorem upSearch_mem (f : Nat → Nat) (target : Int) (a n : Nat) :
    a ≤ upSearch f target a n ∧ upSearch f target a n ≤ a + n := by
  induction n with
  | zero => exact ⟨le_rfl, le_rfl⟩
  | succ n ih =>
    unfold upSearch
    split <;> omega

/-- R38: where its start does not pass the target, neither does what the search of Up finds. -/
theorem upSearch_meets {f : Nat → Nat} {target : Int} {a : Nat} (h : (f a : Int) ≤ target) (n : Nat) :
    (f (upSearch f target a n) : Int) ≤ target := by
  induction n with
  | zero => exact h
  | succ n ih =>
    unfold upSearch
    split
    · assumption
    · exact ih

/-- R38: the search of Down stays on its way. -/
theorem downSearch_mem (f : Nat → Nat) (target : Int) (b n : Nat) :
    b - n ≤ downSearch f target b n ∧ downSearch f target b n ≤ b := by
  induction n with
  | zero => exact ⟨le_rfl, le_rfl⟩
  | succ n ih =>
    unfold downSearch
    split <;> omega

/-- R38: where its start reaches the target, so does what the search of Down finds. -/
theorem downSearch_meets {f : Nat → Nat} {target : Int} {b : Nat} (h : target ≤ (f b : Int)) (n : Nat) :
    target ≤ (f (downSearch f target b n) : Int) := by
  induction n with
  | zero => exact h
  | succ n ih =>
    unfold downSearch
    split
    · assumption
    · exact ih

theorem upTo_mem (f : Nat → Nat) (target : Int) {a b : Nat} (h : a ≤ b) :
    a ≤ upTo f target a b ∧ upTo f target a b ≤ b := by
  have := upSearch_mem f target a (b - a)
  unfold upTo
  omega

theorem downTo_mem (f : Nat → Nat) (target : Int) {a b : Nat} (h : a ≤ b) :
    a ≤ downTo f target a b ∧ downTo f target a b ≤ b := by
  have := downSearch_mem f target b (b - a)
  unfold downTo
  omega

/-- 00 section 5.3: a clamped value lies within its limits. -/
theorem clampTo_mem (x : Nat) {lo hi : Nat} (h : lo ≤ hi) : lo ≤ clampTo x lo hi ∧ clampTo x lo hi ≤ hi := by
  unfold clampTo
  omega

/-- 00 section 5.3: a value within the limits stays. -/
theorem clampTo_of_mem {x lo hi : Nat} (h : lo ≤ x) (h' : x ≤ hi) : clampTo x lo hi = x := by
  unfold clampTo
  omega

/-- R54: with no opening on the way a gate within its travel limits is held, with its recorded flow. -/
theorem noOpening_within {i : DischargeInput} (h : i.lo ≤ i.a) (h' : i.a ≤ i.hi) :
    DischargeInput.noOpening i = ⟨i.a, true⟩ := if_pos ⟨h, h'⟩

/-- R54: with no opening on the way a gate outside its travel limits goes to the start s. -/
theorem noOpening_outside {i : DischargeInput} (h : i.a < i.lo ∨ i.hi < i.a) :
    DischargeInput.noOpening i = ⟨DischargeInput.start i, false⟩ := if_neg (by omega)

/-- R54: either way that is the start s, at which a gate within its travel limits stands. -/
theorem noOpening_result (i : DischargeInput) :
    (DischargeInput.noOpening i).result = DischargeInput.start i := by
  by_cases h : i.lo ≤ i.a ∧ i.a ≤ i.hi
  · rw [noOpening_within h.1 h.2]
    exact (clampTo_of_mem h.1 h.2).symm
  · rw [noOpening_outside (by omega)]

/-- R49, R50, R52: a flow that stays, or a prospective tally within its cap, leaves r2 alone. -/
theorem dischargeStage_within {i : DischargeInput} (h : DischargeInput.qNew i = i.qOld ∨
    (i.qOld < DischargeInput.qNew i ∧ DischargeInput.prospective i ≤ (upperCap i.u i.tally : Int)) ∨
    (DischargeInput.qNew i < i.qOld ∧ (lowerCap i.l i.tally : Int) ≤ DischargeInput.prospective i)) :
    dischargeStage i = ⟨i.r2, false⟩ := by
  unfold dischargeStage
  rcases h with h | ⟨h, hcap⟩ | ⟨h, hcap⟩
  · rw [if_neg (by omega), if_neg (by omega)]
  · rw [if_pos h]
    exact if_pos hcap
  · rw [if_neg (by omega), if_pos h]
    exact if_pos hcap

/-- R50, R51: a rise beyond the cap. -/
theorem dischargeStage_rise {i : DischargeInput} (h : i.qOld < DischargeInput.qNew i)
    (hcap : (upperCap i.u i.tally : Int) < DischargeInput.prospective i) :
    dischargeStage i =
      if DischargeInput.start i ≤ i.r2 ∧
          (i.flow (DischargeInput.start i) : Int) ≤ clampTarget (upperCap i.u i.tally) i.tally i.qOld then
        ⟨upTo i.flow (clampTarget (upperCap i.u i.tally) i.tally i.qOld) (DischargeInput.start i) i.r2, false⟩
      else DischargeInput.noOpening i := by
  rw [dischargeStage, if_pos h]
  exact if_neg (Int.not_le.mpr hcap)

/-- R52, R53: a fall beyond the cap. -/
theorem dischargeStage_fall {i : DischargeInput} (h : DischargeInput.qNew i < i.qOld)
    (hcap : DischargeInput.prospective i < (lowerCap i.l i.tally : Int)) :
    dischargeStage i =
      if i.r2 ≤ DischargeInput.start i ∧
          clampTarget (lowerCap i.l i.tally) i.tally i.qOld ≤ (i.flow (DischargeInput.start i) : Int) then
        ⟨downTo i.flow (clampTarget (lowerCap i.l i.tally) i.tally i.qOld) i.r2 (DischargeInput.start i), false⟩
      else DischargeInput.noOpening i := by
  rw [dischargeStage, if_neg (by omega), if_pos h]
  exact if_neg (Int.not_le.mpr hcap)

/-- R49: the three courses of the discharge stage. -/
theorem dischargeStage_courses (i : DischargeInput) :
    (DischargeInput.qNew i = i.qOld ∨
      (i.qOld < DischargeInput.qNew i ∧ DischargeInput.prospective i ≤ (upperCap i.u i.tally : Int)) ∨
      (DischargeInput.qNew i < i.qOld ∧ (lowerCap i.l i.tally : Int) ≤ DischargeInput.prospective i)) ∨
    (i.qOld < DischargeInput.qNew i ∧ (upperCap i.u i.tally : Int) < DischargeInput.prospective i) ∨
    (DischargeInput.qNew i < i.qOld ∧ DischargeInput.prospective i < (lowerCap i.l i.tally : Int)) := by
  omega

/-- R49 to R54: the discharge stage ends on the way between the start s and r2. -/
theorem dischargeStage_between (i : DischargeInput) :
    min (DischargeInput.start i) i.r2 ≤ (dischargeStage i).result ∧
    (dischargeStage i).result ≤ max (DischargeInput.start i) i.r2 := by
  rcases dischargeStage_courses i with h | ⟨h, hcap⟩ | ⟨h, hcap⟩
  · rw [dischargeStage_within h]
    exact ⟨Nat.min_le_right _ _, Nat.le_max_right _ _⟩
  · rw [dischargeStage_rise h hcap]
    split
    · rename_i hup
      have := upTo_mem i.flow (clampTarget (upperCap i.u i.tally) i.tally i.qOld) hup.1
      dsimp only
      omega
    · rw [noOpening_result]
      omega
  · rw [dischargeStage_fall h hcap]
    split
    · rename_i hdown
      have := downTo_mem i.flow (clampTarget (lowerCap i.l i.tally) i.tally i.qOld) hdown.1
      dsimp only
      omega
    · rw [noOpening_result]
      omega

/-- R49: the inputs of the discharge stage of gate `g` after the travel stage. -/
def State.dischargeInput (s : State) (g : GateIx) (r2 : Nat) : DischargeInput :=
  { flow := flowAt s.table g (State.head s), a := (State.gate s g).admitted, qOld := (State.gate s g).flow,
    tally := s.adu.tally, u := s.scu.upper, l := s.scu.lower, lo := travelMin s.table g, hi := travelMax s.table g,
    r2 := r2 }

section

variable (s : State) (g : GateIx) (y : Submission)

theorem stages_r : (State.stages s g y).r = min y.request 10000 := rfl

theorem stages_urgent : (State.stages s g y).urgent =
    (y.urgent && decide ((State.stages s g y).r ≤ (State.gate s g).admitted)) := rfl

theorem stages_r2 : (State.stages s g y).r2 =
    clampTo (State.stages s g y).r1 (travelMin s.table g) (travelMax s.table g) := rfl

theorem stages_flow : (State.stages s g y).flow = if (State.stages s g y).out.heldFlow then (State.gate s g).flow
    else flowAt s.table g (State.head s) (State.stages s g y).out.result := rfl

variable {s g y}

/-- R47: an urgent admission is not bound by the rate. -/
theorem stages_r1_urgent (h : (State.stages s g y).urgent = true) :
    (State.stages s g y).r1 = (State.stages s g y).r := if_pos h

/-- R47: the rate stage of an admission that is not urgent. -/
theorem stages_r1 (h : (State.stages s g y).urgent = false) :
    (State.stages s g y).r1 = clampTo (State.stages s g y).r
      ((State.gate s g).admitted - gateRate s.table g * elapsedCount (State.cycle s) (State.gate s g).lastCycle)
      ((State.gate s g).admitted + gateRate s.table g * elapsedCount (State.cycle s) (State.gate s g).lastCycle) :=
  if_neg (Bool.eq_false_iff.mp h)

/-- R49: an urgent admission has no discharge stage. -/
theorem stages_out_urgent (h : (State.stages s g y).urgent = true) :
    (State.stages s g y).out = ⟨(State.stages s g y).r2, false⟩ := if_pos h

theorem stages_out (h : (State.stages s g y).urgent = false) :
    (State.stages s g y).out = dischargeStage (State.dischargeInput s g (State.stages s g y).r2) :=
  if_neg (Bool.eq_false_iff.mp h)

/-- R56: the recorded flow is rated at the result, unless the gate is held with the flow it has. -/
theorem stages_flow_of_out {o : Nat} (h : (State.stages s g y).out = ⟨o, false⟩) :
    (State.stages s g y).out.result = o ∧
      (State.stages s g y).flow = flowAt s.table g (State.head s) (State.stages s g y).out.result := by
  rw [stages_flow, h]
  exact ⟨rfl, rfl⟩

end

/-- R48: the admitted opening lies within the travel limits as installed. -/
theorem stages_result_within_travel {s : State} {g : GateIx} (h : travelMin s.table g ≤ travelMax s.table g)
    (y : Submission) : travelMin s.table g ≤ (State.stages s g y).out.result ∧
      (State.stages s g y).out.result ≤ travelMax s.table g := by
  have hr2 := clampTo_mem (State.stages s g y).r1 h
  rw [← stages_r2] at hr2
  cases hu : (State.stages s g y).urgent with
  | true =>
    rw [stages_out_urgent hu]
    exact hr2
  | false =>
    have hstart := clampTo_mem (State.gate s g).admitted h
    have hbetween := dischargeStage_between (State.dischargeInput s g (State.stages s g y).r2)
    rw [← stages_out hu] at hbetween
    simp only [State.dischargeInput, DischargeInput.start] at hbetween
    omega

/-- R47, R48: not urgent and within its travel limits, a gate moves no farther than its rate allows. -/
theorem stages_result_within_rate {s : State} {g : GateIx} {y : Submission}
    (hlo : travelMin s.table g ≤ (State.gate s g).admitted) (hhi : (State.gate s g).admitted ≤ travelMax s.table g)
    (hu : (State.stages s g y).urgent = false) :
    distance (State.stages s g y).out.result (State.gate s g).admitted ≤
      gateRate s.table g * elapsedCount (State.cycle s) (State.gate s g).lastCycle := by
  have hr1 := stages_r1 hu
  have hr2 := stages_r2 s g y
  have hbetween := dischargeStage_between (State.dischargeInput s g (State.stages s g y).r2)
  rw [← stages_out hu] at hbetween
  simp only [State.dischargeInput, DischargeInput.start, clampTo_of_mem hlo hhi] at hbetween
  generalize gateRate s.table g * elapsedCount (State.cycle s) (State.gate s g).lastCycle = d at hr1 ⊢
  unfold clampTo at hr1 hr2
  unfold distance
  omega

end Sys2Proof.Machine

namespace Sys2Proof.GateRing

open Machine Safety

/-- Settles O34: the elapsed count by its definition, its use in the rate stage, the record an admission leaves. -/
theorem elapsedCountOfAnAdmission : Obligations.ElapsedCountOfAnAdmission := by
  unfold Obligations.ElapsedCountOfAnAdmission
  refine ⟨fun c last => ?_, fun s g y => ⟨?_, stages_r1_urgent, stages_r1⟩⟩
  · unfold elapsedCount
    omega
  · rw [gate_admit, if_pos rfl]
    rfl

/-- Settles O35: r2 and the start s lie within the travel limits and the rate allowance, and the discharge stage ends
between them. -/
theorem admissionStaysInTravelAndRate : Obligations.AdmissionStaysInTravelAndRate := by
  unfold Obligations.AdmissionStaysInTravelAndRate
  intro s g y
  refine ⟨fun h => ?_, stages_result_within_rate⟩
  obtain ⟨hlo, hhi⟩ := stages_result_within_travel h y
  refine ⟨hlo, hhi, ?_⟩
  rw [gate_admit, if_pos rfl]
  rfl

end Sys2Proof.GateRing

namespace Sys2Proof.Machine

open Safety

/-! ### What the discharge stage grants (R50 to R56) -/

section

variable {s : State} {g : GateIx} {y : Submission} {i : DischargeInput}

/-- R49, R50, R52: urgent, or within its cap, an admission gets the opening r2. -/
theorem stages_within (hi : i = State.dischargeInput s g (State.stages s g y).r2)
    (h : (State.stages s g y).urgent = true ∨ DischargeInput.qNew i = i.qOld ∨
      (i.qOld < DischargeInput.qNew i ∧ DischargeInput.prospective i ≤ (upperCap i.u i.tally : Int)) ∨
      (DischargeInput.qNew i < i.qOld ∧ (lowerCap i.l i.tally : Int) ≤ DischargeInput.prospective i)) :
    (State.stages s g y).out.result = i.r2 ∧ (State.stages s g y).flow = DischargeInput.qNew i := by
  have hout : (State.stages s g y).out = ⟨i.r2, false⟩ := by
    rcases Bool.eq_false_or_eq_true (State.stages s g y).urgent with hu | hu
    · rw [stages_out_urgent hu, hi]
      rfl
    · rw [stages_out hu, ← hi]
      exact dischargeStage_within (h.resolve_left (Bool.eq_false_iff.mp hu))
  obtain ⟨hres, hflow⟩ := stages_flow_of_out hout
  refine ⟨hres, ?_⟩
  rw [hflow, hres, hi]
  rfl

/-- R54: where no opening meets the target. -/
theorem stages_noOpening (hi : i = State.dischargeInput s g (State.stages s g y).r2)
    (h : (State.stages s g y).out = DischargeInput.noOpening i) :
    (i.lo ≤ i.a → i.a ≤ i.hi → (State.stages s g y).out.result = i.a ∧ (State.stages s g y).flow = i.qOld) ∧
    (i.a < i.lo ∨ i.hi < i.a → (State.stages s g y).out.result = DischargeInput.start i ∧
      (State.stages s g y).flow = i.flow (DischargeInput.start i)) := by
  refine ⟨fun hlo hhi => ?_, fun hout => ?_⟩
  · rw [noOpening_within hlo hhi] at h
    rw [stages_flow, h, hi]
    exact ⟨rfl, rfl⟩
  · rw [noOpening_outside hout] at h
    obtain ⟨hres, hflow⟩ := stages_flow_of_out h
    refine ⟨hres, ?_⟩
    rw [hflow, hres, hi]
    rfl

/-- R51, R54: what a rise beyond its cap gets. -/
theorem stages_rise (hi : i = State.dischargeInput s g (State.stages s g y).r2)
    (hu : (State.stages s g y).urgent = false) (h : i.qOld < DischargeInput.qNew i)
    (hcap : (upperCap i.u i.tally : Int) < DischargeInput.prospective i) {target : Int}
    (ht : target = clampTarget (upperCap i.u i.tally) i.tally i.qOld) :
    (DischargeInput.start i ≤ i.r2 → (i.flow (DischargeInput.start i) : Int) ≤ target →
      (State.stages s g y).out.result = upTo i.flow target (DischargeInput.start i) i.r2 ∧
      (State.stages s g y).flow = i.flow (State.stages s g y).out.result) ∧
    (i.r2 < DischargeInput.start i ∨ target < (i.flow (DischargeInput.start i) : Int) →
      (i.lo ≤ i.a → i.a ≤ i.hi → (State.stages s g y).out.result = i.a ∧ (State.stages s g y).flow = i.qOld) ∧
      (i.a < i.lo ∨ i.hi < i.a → (State.stages s g y).out.result = DischargeInput.start i ∧
        (State.stages s g y).flow = i.flow (DischargeInput.start i))) := by
  have hout := stages_out hu
  rw [← hi, dischargeStage_rise h hcap, ← ht] at hout
  refine ⟨fun hs hf => ?_, fun hnone => stages_noOpening hi ?_⟩
  · rw [if_pos ⟨hs, hf⟩] at hout
    rw [hi] at hout ⊢
    exact stages_flow_of_out hout
  · rw [hout, if_neg (by omega)]

/-- R53, R54: what a fall beyond its cap gets. -/
theorem stages_fall (hi : i = State.dischargeInput s g (State.stages s g y).r2)
    (hu : (State.stages s g y).urgent = false) (h : DischargeInput.qNew i < i.qOld)
    (hcap : DischargeInput.prospective i < (lowerCap i.l i.tally : Int)) {target : Int}
    (ht : target = clampTarget (lowerCap i.l i.tally) i.tally i.qOld) :
    (i.r2 ≤ DischargeInput.start i → target ≤ (i.flow (DischargeInput.start i) : Int) →
      (State.stages s g y).out.result = downTo i.flow target i.r2 (DischargeInput.start i) ∧
      (State.stages s g y).flow = i.flow (State.stages s g y).out.result) ∧
    (DischargeInput.start i < i.r2 ∨ (i.flow (DischargeInput.start i) : Int) < target →
      (i.lo ≤ i.a → i.a ≤ i.hi → (State.stages s g y).out.result = i.a ∧ (State.stages s g y).flow = i.qOld) ∧
      (i.a < i.lo ∨ i.hi < i.a → (State.stages s g y).out.result = DischargeInput.start i ∧
        (State.stages s g y).flow = i.flow (DischargeInput.start i))) := by
  have hout := stages_out hu
  rw [← hi, dischargeStage_fall h hcap, ← ht] at hout
  refine ⟨fun hs hf => ?_, fun hnone => stages_noOpening hi ?_⟩
  · rw [if_pos ⟨hs, hf⟩] at hout
    rw [hi] at hout ⊢
    exact stages_flow_of_out hout
  · rw [hout, if_neg (by omega)]

/-- R50, R51, R54: a rise of a gate within its travel limits does not take the tally past the upper cap. -/
theorem stages_flow_le_cap (hi : i = State.dischargeInput s g (State.stages s g y).r2)
    (hu : (State.stages s g y).urgent = false) (hlo : i.lo ≤ i.a) (hhi : i.a ≤ i.hi)
    (h : i.qOld < DischargeInput.qNew i) :
    (i.tally : Int) - i.qOld + (State.stages s g y).flow ≤ (upperCap i.u i.tally : Int) := by
  by_cases hcap : DischargeInput.prospective i ≤ (upperCap i.u i.tally : Int)
  · rw [(stages_within hi (.inr (.inr (.inl ⟨h, hcap⟩)))).2]
    exact hcap
  · obtain ⟨hup, hnone⟩ := stages_rise hi hu h (Int.not_le.mp hcap) rfl
    by_cases hs : DischargeInput.start i ≤ i.r2 ∧
        (i.flow (DischargeInput.start i) : Int) ≤ clampTarget (upperCap i.u i.tally) i.tally i.qOld
    · obtain ⟨hres, hflow⟩ := hup hs.1 hs.2
      have hmeets := upSearch_meets hs.2 (i.r2 - DischargeInput.start i)
      rw [← upTo, ← hres, ← hflow, clampTarget] at hmeets
      omega
    · obtain ⟨-, hflow⟩ := (hnone (by omega)).1 hlo hhi
      rw [hflow, upperCap]
      omega

/-- R52, R53, R54: a fall of a gate within its travel limits does not take the tally past the lower cap. -/
theorem cap_le_stages_flow (hi : i = State.dischargeInput s g (State.stages s g y).r2)
    (hu : (State.stages s g y).urgent = false) (hlo : i.lo ≤ i.a) (hhi : i.a ≤ i.hi)
    (h : DischargeInput.qNew i < i.qOld) :
    (lowerCap i.l i.tally : Int) ≤ (i.tally : Int) - i.qOld + (State.stages s g y).flow := by
  by_cases hcap : (lowerCap i.l i.tally : Int) ≤ DischargeInput.prospective i
  · rw [(stages_within hi (.inr (.inr (.inr ⟨h, hcap⟩)))).2]
    exact hcap
  · obtain ⟨hdown, hnone⟩ := stages_fall hi hu h (Int.not_le.mp hcap) rfl
    by_cases hs : i.r2 ≤ DischargeInput.start i ∧
        clampTarget (lowerCap i.l i.tally) i.tally i.qOld ≤ (i.flow (DischargeInput.start i) : Int)
    · obtain ⟨hres, hflow⟩ := hdown hs.1 hs.2
      have hmeets := downSearch_meets hs.2 (DischargeInput.start i - i.r2)
      rw [← downTo, ← hres, ← hflow, clampTarget] at hmeets
      omega
    · obtain ⟨-, hflow⟩ := (hnone (by omega)).1 hlo hhi
      rw [hflow, lowerCap]
      omega

end

end Sys2Proof.Machine

namespace Sys2Proof.GateRing

open Machine Safety

/-- Settles O36: the stages one by one; the discharge stage by whether the flow rises, falls or stays and whether the
prospective tally keeps within its cap. -/
theorem admissionFacesItsBound : Obligations.AdmissionFacesItsBound := by
  unfold Obligations.AdmissionFacesItsBound
  rintro s g y x f a lo hi start q qOld cap target after rfl rfl rfl rfl rfl rfl rfl rfl rfl hcap rfl
  have hrise (h : (State.gate s g).flow < flowAt s.tst.table g (State.head s) (State.stages s g y).r2) :
      cap = (upperCap s.scu.upper s.adu.tally : Int) := by rw [hcap, if_pos h]; rfl
  have hfall (h : flowAt s.tst.table g (State.head s) (State.stages s g y).r2 < (State.gate s g).flow) :
      cap = (lowerCap s.scu.lower s.adu.tally : Int) := by rw [hcap, if_neg (by omega)]; rfl
  refine ⟨rfl, rfl, stages_r1_urgent, stages_r1, rfl, fun h => ?_, fun hu h hover => ?_, fun hu h hover => ?_,
    fun hlo hhi hu hq => ⟨fun h => ?_, fun h => ?_, fun h => ?_⟩⟩
  · refine stages_within rfl (h.imp_right (.imp_right (.imp ?_ ?_)))
    · rintro ⟨h, hle⟩
      exact ⟨h, hrise h ▸ hle⟩
    · rintro ⟨h, hle⟩
      exact ⟨h, hfall h ▸ hle⟩
  · obtain rfl := hrise h
    exact stages_rise rfl hu h hover rfl
  · obtain rfl := hfall h
    exact stages_fall rfl hu h hover rfl
  · have := stages_flow_le_cap rfl hu hlo hhi h
    rw [admit_tally, tallyChange]
    simp only [State.dischargeInput, upperCap] at this
    omega
  · have := cap_le_stages_flow rfl hu hlo hhi h
    rw [admit_tally, tallyChange]
    simp only [State.dischargeInput, lowerCap] at this
    omega
  · rw [admit_tally, tallyChange, (stages_within rfl (.inr (.inl h))).2]
    simp only [DischargeInput.qNew, State.dischargeInput, State.table, h]
    omega

end Sys2Proof.GateRing

namespace Sys2Proof.Machine

open Safety

/-! ### What an admission counts and reports (R57 to R62) -/

/-- R61: the station counters an admission raises. -/
def admissionCounters : List Counter := [.admitted, .clampRate, .clampTravel, .clampCeiling, .clampFloor]

/-- R61: how often an admission with the stages `x` raises each station counter. -/
def Stages.counts (x : Stages) : Counter → Nat
  | .admitted => 1
  | .clampRate => if x.out.result ≠ x.r ∧ x.r1 ≠ x.r then 1 else 0
  | .clampTravel => if x.out.result ≠ x.r ∧ x.r2 ≠ x.r1 then 1 else 0
  | .clampCeiling => if x.out.result ≠ x.r ∧ x.out.result ≠ x.r2 ∧ x.rises = true then 1 else 0
  | .clampFloor => if x.out.result ≠ x.r ∧ x.out.result ≠ x.r2 ∧ x.rises = false then 1 else 0
  | _ => 0

theorem Stages.counts_eq_zero (x : Stages) {c : Counter} (h : c ∉ admissionCounters) : Stages.counts x c = 0 := by
  cases c <;> first | rfl | exact absurd (by decide) h

/-- One increase of a station counter, when there is one. -/
theorem reported_countIf (s : State) (b : Bool) (c : Counter) :
    Ncu.Reported s.ncu (State.countIf s b c).ncu [] (onlyCounter c (if b then 1 else 0)) := by
  cases b
  · rw [if_neg (by decide), onlyCounter_zero]
    exact Ncu.Reported.refl _
  · exact reported_count s c

/-- R61: the counts of an admission. -/
theorem reported_countAdmission (s : State) (x : Stages) :
    Ncu.Reported s.ncu (State.countAdmission s x).ncu [] (Stages.counts x) := by
  have h := ((((reported_count s .admitted).trans (reported_countIf _ (Stages.clamp x && x.r1 != x.r) .clampRate)).trans
    (reported_countIf _ (Stages.clamp x && x.r2 != x.r1) .clampTravel)).trans
    (reported_countIf _ (Stages.clamp x && Stages.dischargeMoved x && x.rises) .clampCeiling)).trans
    (reported_countIf _ (Stages.clamp x && Stages.dischargeMoved x && !x.rises) .clampFloor)
  refine Eq.mp (congrArg (Ncu.Reported s.ncu (State.countAdmission s x).ncu []) (funext fun c => ?_)) h
  cases c <;> simp [onlyCounter, Stages.counts, Stages.clamp, Stages.dischargeMoved, and_assoc]

theorem counter_countAdmission (s : State) (x : Stages) (c : Counter) :
    State.counter (State.countAdmission s x) c = raised (State.counter s c) (Stages.counts x c) :=
  (reported_countAdmission s x).station c

theorem counter_admission_eq (s : State) (g : GateIx) (y : Submission) (c : Counter) :
    State.counter (State.admission s g y) c =
      raised (State.counter s c) (Stages.counts (State.stages s g y) c) := by
  unfold State.admission
  dsimp only
  split <;> simp [counter_countAdmission]

theorem addTravel_notices (s : State) (g : GateIx) (d : Nat) :
    (State.addTravel s g d).ncu.queue = s.ncu.queue ∧ (State.addTravel s g d).ncu.lost = s.ncu.lost ∧
    (State.addTravel s g d).ncu.bank = s.ncu.bank ∧
    (State.addTravel s g d).ncu.counters.reversals = s.ncu.counters.reversals := ⟨rfl, rfl, rfl, rfl⟩

theorem addReversal_notices (s : State) (g : GateIx) (b : Bool) :
    (State.addReversal s g b).ncu.queue = s.ncu.queue ∧ (State.addReversal s g b).ncu.lost = s.ncu.lost ∧
    (State.addReversal s g b).ncu.bank = s.ncu.bank ∧
    (State.addReversal s g b).ncu.counters.travel = s.ncu.counters.travel := by
  cases b <;> exact ⟨rfl, rfl, rfl, rfl⟩

/-- R58, R71: the travel totals after an increase of gate `g`'s. -/
theorem travel_addTravel (s : State) (g k : GateIx) (d : Nat) : (State.addTravel s g d).ncu.counters.travel[k] =
    if k = g then min 4294967295 (s.ncu.counters.travel[g] + d) else s.ncu.counters.travel[k] := by
  simp only [State.addTravel, State.setCounters, Fin.getElem_fin, Vector.getElem_set, satAdd, Fin.val_inj,
    eq_comm (a := g)]

/-- R57: the reversal counts after an increase of gate `g`'s, when there is one. -/
theorem reversals_addReversal (s : State) (g k : GateIx) (b : Bool) :
    (State.addReversal s g b).ncu.counters.reversals[k] =
      if k = g ∧ b = true then min 65535 (s.ncu.counters.reversals[k] + 1) else s.ncu.counters.reversals[k] := by
  cases b
  · simp [State.addReversal]
  · by_cases h : k = g
    · subst h
      simp [State.addReversal, State.setCounters, satAdd]
    · have hne : g.val ≠ k.val := fun e => h (Fin.ext e.symm)
      simp [State.addReversal, State.setCounters, h, hne]

/-- R57: an admission reverses a gate when it moves against the last direction. -/
theorem isReversal_iff (old : Direction) (a result : Nat) : isReversal old a result = true ↔
    old = .down ∧ a < result ∨ old = .up ∧ result < a := by
  simp [isReversal]

/-- R59, R60: the CLAMP notice of an admission of gate `g`, the bounds and their terms being those of `c`. -/
def Stages.notice (x : Stages) (g : GateIx) (c : Scu) : Notice :=
  .clamp g ⟨Stages.reason x, Stages.binding x c.upperTerm c.lowerTerm, x.r, x.out.result⟩

/-- R56 to R58, R61: an admission up to its CLAMP notice. -/
def State.admitQuietly (s : State) (g : GateIx) (y : Submission) : State :=
  let r := State.gate s g
  let x := State.stages s g y
  State.addReversal
    (State.addTravel
      (State.countAdmission
        (State.setTally (State.setGate s g (Gate.withAdmission r y x (State.cycle s)))
          (tallyChange s.adu.tally r.flow x.flow)) x)
      g (distance x.out.result r.admitted))
    g (isReversal r.lastDir r.admitted x.out.result)

/-- R59, R62: the CLAMP notice of an admission comes last, when its result differs from the request. -/
theorem admission_eq (s : State) (g : GateIx) (y : Submission) :
    State.admission s g y = if (State.stages s g y).out.result = (State.stages s g y).r then State.admitQuietly s g y
      else State.notify (State.admitQuietly s g y) (Stages.notice (State.stages s g y) g s.scu) := by
  by_cases h : (State.stages s g y).out.result = (State.stages s g y).r
  · exact (if_neg (by simp [Stages.clamp, h])).trans (if_pos h).symm
  · exact (if_pos (by simp [Stages.clamp, h])).trans (if_neg h).symm

theorem admitQuietly_notices (s : State) (g : GateIx) (y : Submission) :
    (State.admitQuietly s g y).ncu.queue = s.ncu.queue ∧ (State.admitQuietly s g y).ncu.lost = s.ncu.lost ∧
    (State.admitQuietly s g y).ncu.bank = s.ncu.bank := by
  simp [State.admitQuietly, addReversal_notices, addTravel_notices, (reported_countAdmission _ _).queue,
    (reported_countAdmission _ _).lost, (reported_countAdmission _ _).bank]

/-- R59, R62: what an admission does to the notices. -/
theorem admission_notices (s : State) (g : GateIx) (y : Submission) :
    (State.admission s g y).ncu.queue = (if (State.stages s g y).out.result = (State.stages s g y).r then s.ncu
      else Ncu.notify s.ncu (Stages.notice (State.stages s g y) g s.scu)).queue ∧
    (State.admission s g y).ncu.lost = (if (State.stages s g y).out.result = (State.stages s g y).r then s.ncu
      else Ncu.notify s.ncu (Stages.notice (State.stages s g y) g s.scu)).lost ∧
    (State.admission s g y).ncu.bank = s.ncu.bank := by
  obtain ⟨hq, hl, hb⟩ := admitQuietly_notices s g y
  rw [admission_eq]
  split
  · exact ⟨hq, hl, hb⟩
  · obtain ⟨hq', hl'⟩ := notify_congr hq hl (Stages.notice (State.stages s g y) g s.scu)
    exact ⟨hq', hl', (Ncu.notify_bank _ _).trans hb⟩

/-- R57 to R59: the CLAMP notice leaves the counters of an admission alone. -/
theorem admission_counters (s : State) (g : GateIx) (y : Submission) :
    (State.admission s g y).ncu.counters = (State.admitQuietly s g y).ncu.counters := by
  rw [admission_eq]
  split
  · rfl
  · exact Ncu.notify_counters _ _

/-- R58: the travel totals after an admission. -/
theorem travel_admission (s : State) (g k : GateIx) (y : Submission) :
    (State.admission s g y).ncu.counters.travel[k] =
      if k = g then
        min 4294967295 (s.ncu.counters.travel[g] + distance (State.stages s g y).out.result (State.gate s g).admitted)
      else s.ncu.counters.travel[k] := by
  rw [admission_counters]
  simp only [State.admitQuietly, addReversal_notices, travel_addTravel, (reported_countAdmission _ _).travel,
    State.setTally_ncu, State.setGate_ncu]

/-- R57: the reversal counts after an admission. -/
theorem reversals_admission (s : State) (g k : GateIx) (y : Submission) :
    (State.admission s g y).ncu.counters.reversals[k] =
      if k = g ∧
        ((State.gate s g).lastDir = .down ∧ (State.gate s g).admitted < (State.stages s g y).out.result ∨
          (State.gate s g).lastDir = .up ∧ (State.stages s g y).out.result < (State.gate s g).admitted)
      then min 65535 (s.ncu.counters.reversals[k] + 1) else s.ncu.counters.reversals[k] := by
  rw [admission_counters]
  simp only [State.admitQuietly, reversals_addReversal, isReversal_iff, addTravel_notices,
    (reported_countAdmission _ _).reversals, State.setTally_ncu, State.setGate_ncu]

/-! ### An admission in a COMMAND slot -/

/-- `u` is `s` brought to the start of an admission of gate `g` in its COMMAND slot: the position is taken, and all that
the admission reads is as it was. -/
structure AdmissionStart (s u : State) (g : GateIx) : Prop where
  kept : CommandFrameKept s u
  others : OtherGatesKept g s u
  rpu : u.rpu = { s.rpu with slotPos := s.rpu.slotPos + 1 }
  tally : u.adu.tally = s.adu.tally
  admitted : (State.gate u g).admitted = (State.gate s g).admitted
  flow : (State.gate u g).flow = (State.gate s g).flow
  lastCycle : (State.gate u g).lastCycle = (State.gate s g).lastCycle
  lastDir : (State.gate u g).lastDir = (State.gate s g).lastDir

/-- R34, R35: the head goes by the gauges and the installed groups. -/
theorem head_congr {s u : State} (ht : u.tst = s.tst) (hg : u.adu.gauges = s.adu.gauges) :
    State.head u = State.head s := by
  unfold State.head State.freshLevel State.gauge State.table
  rw [ht, hg]

namespace AdmissionStart

variable {s u : State} {g : GateIx}

theorem cycle (h : AdmissionStart s u g) : State.cycle u = State.cycle s := by
  unfold State.cycle
  rw [h.rpu]

/-- R42 to R56: the stages of the admission are those computed from `s`. -/
theorem stages_eq (h : AdmissionStart s u g) (y : Submission) : State.stages u g y = State.stages s g y := by
  obtain ⟨hscu, -, -, -, htst, -, hgauges, -⟩ := h.kept
  unfold State.stages State.table
  dsimp only
  rw [head_congr htst hgauges, h.cycle, h.tally, h.admitted, h.flow, h.lastCycle, hscu, htst]

/-- R57 to R62: what the admission counts and reports, the notices standing at `v` before it. -/
theorem reported (h : AdmissionStart s u g) {y : Submission} {x : Stages} (hx : x = State.stages s g y) {t : State}
    {v : Ncu} {l : List Counter} (ht : t.ncu = (State.admission u g y).ncu) (hl : ∀ c ∈ admissionCounters, c ∉ l)
    (hc : CountersKept l s.ncu u.ncu) (hq : u.ncu.queue = v.queue) (hlost : u.ncu.lost = v.lost) :
    AdmissionReported s t g x v := by
  obtain ⟨hbank, htravel, hreversals, hstation⟩ := hc
  obtain ⟨hq', hlost', hbank'⟩ := admission_notices u g y
  have hxu : State.stages u g y = x := (h.stages_eq y).trans hx.symm
  have hcounter (c : Counter) (hm : c ∈ admissionCounters) :
      State.counter t c = raised (State.counter s c) (Stages.counts x c) := by
    rw [State.counter, ht, ← State.counter, counter_admission_eq, hxu]
    exact congrArg (raised · _) (hstation c (hl c hm))
  have hrises : x.rises =
      decide ((State.gate s g).flow < flowAt s.tst.table g (State.head s) x.r2) := by rw [hx]; rfl
  have hw := notify_congr hq hlost (Stages.notice x g s.scu)
  rw [hxu, h.kept.1] at hq' hlost'
  refine ⟨x.rises, Stages.reason x, _, hrises, ?_, rfl, ?_, ?_, ?_, hcounter _ (by decide), hcounter _ (by decide),
    hcounter _ (by decide), hcounter _ (by decide), hcounter _ (by decide), fun k => ?_, fun k => ?_⟩
  · simp only [Stages.reason, Stages.dischargeMoved, bne_iff_ne]
  · rw [ht, hq']
    by_cases hr : x.out.result = x.r
    · rw [if_pos hr, if_pos hr]
      exact hq
    · rw [if_neg hr, if_neg hr]
      exact hw.1
  · rw [ht, hlost']
    by_cases hr : x.out.result = x.r
    · rw [if_pos hr, if_pos hr]
      exact hlost
    · rw [if_neg hr, if_neg hr]
      exact hw.2
  · rw [ht, hbank', hbank]
  · rw [ht, travel_admission, hxu, htravel, h.admitted]
  · rw [ht, reversals_admission, hxu, hreversals, h.admitted, h.lastDir]

theorem counted (h : AdmissionStart s u g) (c : Counter) : AdmissionStart s (State.count u c) g :=
  ⟨h.kept, h.others, h.rpu, h.tally, h.admitted, h.flow, h.lastCycle, h.lastDir⟩

theorem notified (h : AdmissionStart s u g) (n : Notice) : AdmissionStart s (State.notify u n) g :=
  ⟨h.kept, h.others, h.rpu, h.tally, h.admitted, h.flow, h.lastCycle, h.lastDir⟩

theorem reportedOwnership (h : AdmissionStart s u g) : AdmissionStart s (State.reportOwnership u) g :=
  ⟨h.kept, h.others, h.rpu, h.tally, h.admitted, h.flow, h.lastCycle, h.lastDir⟩

/-- A change of the gate's record in what an admission does not read. -/
theorem changed (h : AdmissionStart s u g) {r : Gate} (ha : r.admitted = (State.gate u g).admitted)
    (hf : r.flow = (State.gate u g).flow) (hc : r.lastCycle = (State.gate u g).lastCycle)
    (hd : r.lastDir = (State.gate u g).lastDir) : AdmissionStart s (State.setGate u g r) g where
  kept := h.kept
  others := fun k hk => (gate_setGate_ne u r hk).trans (h.others k hk)
  rpu := h.rpu
  tally := h.tally
  admitted := by rw [gate_setGate_self, ha, h.admitted]
  flow := by rw [gate_setGate_self, hf, h.flow]
  lastCycle := by rw [gate_setGate_self, hc, h.lastCycle]
  lastDir := by rw [gate_setGate_self, hd, h.lastDir]

end AdmissionStart

/-! ### The selection in a COMMAND slot (R8, R67, R68) -/

/-- R1, R3, R8: the state in which the selection for a frame in gate `g`'s COMMAND slot starts. -/
def State.commandTaken (s : State) (g : GateIx) (f : Frame) : State := State.positionTaken (slotCounts s g f)

/-- R1, R8: the counts of the frame itself reach the NCU alone. -/
theorem slotCounts_eq (s : State) (g : GateIx) (f : Frame) :
    slotCounts s g f = { s with ncu := (slotCounts s g f).ncu } := by
  unfold slotCounts
  cases !Frame.good f <;> cases misroutedFor g f <;> rfl

theorem commandTaken_eq (s : State) (g : GateIx) (f : Frame) : State.commandTaken s g f =
    { s with rpu := { s.rpu with slotPos := s.rpu.slotPos + 1 }, ncu := (slotCounts s g f).ncu } := by
  rw [State.commandTaken, slotCounts_eq]
  rfl

@[simp] theorem gate_commandTaken (s : State) (g k : GateIx) (f : Frame) :
    State.gate (State.commandTaken s g f) k = State.gate s k := by
  rw [commandTaken_eq]
  rfl

@[simp] theorem tripped_commandTaken (s : State) (g k : GateIx) (f : Frame) :
    State.tripped (State.commandTaken s g f) k = State.tripped s k := by
  rw [commandTaken_eq]
  rfl

@[simp] theorem usable_commandTaken (s : State) (g : GateIx) (f : Frame) (cmd : Option DispatchCommand) :
    State.usable (State.commandTaken s g f) cmd = State.usable s cmd := by
  rw [commandTaken_eq]
  rfl

@[simp] theorem sqe_commandTaken (s : State) (g : GateIx) (f : Frame) : (State.commandTaken s g f).sqe = s.sqe := by
  rw [commandTaken_eq]

@[simp] theorem ncu_commandTaken (s : State) (g : GateIx) (f : Frame) :
    (State.commandTaken s g f).ncu = (slotCounts s g f).ncu := rfl

/-- R1, R8: beside BAD_CHECK and MISROUTED the frame counts nothing. -/
theorem slotCounts_notices (s : State) (g : GateIx) (f : Frame) :
    (slotCounts s g f).ncu.queue = s.ncu.queue ∧ (slotCounts s g f).ncu.lost = s.ncu.lost ∧
    CountersKept [.badCheck, .misrouted] s.ncu (slotCounts s g f).ncu := by
  obtain ⟨n, m, h⟩ : ∃ n m, Ncu.Reported s.ncu (slotCounts s g f).ncu []
      (fun c => onlyCounter .badCheck n c + onlyCounter .misrouted m c) :=
    ⟨_, _, (reported_countIf s _ _).trans (reported_countIf _ _ _)⟩
  refine ⟨h.queue, h.lost, h.countersKept fun c hc => ?_⟩
  rw [List.mem_cons, List.mem_singleton, not_or] at hc
  simp [onlyCounter, hc]

theorem admissionStart_commandTaken (s : State) (g : GateIx) (f : Frame) :
    AdmissionStart s (State.commandTaken s g f) g := by
  rw [commandTaken_eq]
  exact ⟨⟨rfl, rfl, rfl, rfl, rfl, rfl, rfl, rfl, rfl, rfl⟩, fun _ _ => rfl, rfl, rfl, rfl, rfl, rfl, rfl⟩

/-- R8: a frame in the COMMAND slot of gate `g` goes to the selection. -/
theorem ringArrival_select {s : State} {g : GateIx} (h : AtCommand s g) {f : Frame} (hf : Frame.isMarker f = false)
    (late : Bool) : State.ringArrival s f late =
      State.emit (State.select (State.commandTaken s g f) g (dispatchCommand g f)).1
        (State.select (State.commandTaken s g f) g (dispatchCommand g f)).2 := by
  rw [ringArrival_command h hf, State.commandTaken, slotCounts, State.commandSlot]
  cases !Frame.good f <;> cases misroutedFor g f <;> rfl

/-- R67: cases 3 to 7, for a gate whose flow is counted and that no trip holds. -/
theorem select_laterCases {s : State} {g : GateIx} (hc : GateState.counted (State.gate s g).state = true)
    (ht : State.tripped s g = false) (ho : (State.gate s g).owner ≠ .trip) (cmd : Option DispatchCommand) :
    State.select s g cmd = State.laterCases s g (State.usable s cmd) := by
  simp [State.select, hc, ht, State.releaseTrip, ho]

/-- R8, R68: the usable dispatch command a frame is to gate `g`. -/
theorem usable_of_usable {s : State} {g : GateIx} {f : Frame} (h : Usable s g f) :
    State.usable s (dispatchCommand g f) = some ⟨f.valueA, urgentFlag f.flags, f.tag⟩ := by
  obtain ⟨hp, hf⟩ := h
  rw [State.usable, if_pos hp, dispatchCommand, if_pos hf]

theorem usable_of_silent {s : State} {g : GateIx} {f : Frame} (h : Silent s g f) :
    State.usable s (dispatchCommand g f) = none := by
  unfold State.usable dispatchCommand
  split
  · rename_i hp
    exact if_neg fun hf => h ⟨hp, hf⟩
  · rfl

/-- R68: a usable dispatch command is a good frame of its slot's gate, which counts nothing. -/
theorem slotCounts_of_usable {s : State} {g : GateIx} {f : Frame} (h : Usable s g f) : slotCounts s g f = s := by
  obtain ⟨-, hgood, -, hid⟩ := h
  simp [slotCounts, misroutedFor, hgood, hid]

theorem isMarker_of_usable {s : State} {g : GateIx} {f : Frame} (h : Usable s g f) : Frame.isMarker f = false := by
  obtain ⟨-, -, hkind, -⟩ := h
  rw [Frame.isMarker, hkind]
  simp

/-- R67: a COMMAND slot of a gate whose flow is counted and that no trip holds. -/
theorem exec_commandSlotFrame {s : State} {g : GateIx} (h : AtCommand s g) {f : Frame}
    (hf : Frame.isMarker f = false) (hc : GateState.counted (State.gate s g).state = true)
    (ht : State.tripped s g = false) (ho : (State.gate s g).owner ≠ .trip) {p : State × Frame}
    (hp : p = State.laterCases (State.commandTaken s g f) g (State.usable s (dispatchCommand g f))) :
    exec (.commandSlotFrame f) s = .next (State.emit p.1 p.2) := by
  have hsel : State.select (State.commandTaken s g f) g (dispatchCommand g f) = p := by
    rw [hp, ← usable_commandTaken s g f]
    exact select_laterCases (by simpa using hc) (by simpa using ht) (by simpa using ho) _
  refine congrArg Host.Outcome.next ((ringArrival_select h hf false).trans ?_)
  rw [hsel]

end Sys2Proof.Machine

namespace Sys2Proof.Machine

open Safety

/-! ### Who commands the gate (R68, R73, R74, R77) -/

theorem AdmissionStart.noticedState {s u : State} {g : GateIx} (h : AdmissionStart s u g) (old new : GateState) :
    AdmissionStart s (State.noticeState u g old new) g := by
  unfold State.noticeState
  split
  · exact h
  · exact h.notified _

/-- R73, R77: a dispatch command takes the gate before its admission, in what the admission does not read. -/
theorem AdmissionStart.taken {s u : State} {g : GateIx} (h : AdmissionStart s u g) :
    AdmissionStart s (State.dispatchTakes u g) g := by
  unfold State.dispatchTakes
  dsimp only
  split
  · refine ((h.changed ?_ ?_ ?_ ?_).noticedState _ _).reportedOwnership <;> rfl
  · refine (h.changed ?_ ?_ ?_ ?_).noticedState _ _ <;> rfl

/-- R73, R77: the record of a gate that a dispatch command takes. -/
theorem gate_dispatchTakes (s : State) (g : GateIx) : State.gate (State.dispatchTakes s g) g =
    { State.gate s g with
      holdCount := 0, state := if (State.gate s g).state = .stale then .service else (State.gate s g).state,
      owner := .dispatch,
      released := if (State.gate s g).owner = .engine then true else (State.gate s g).released } := by
  unfold State.dispatchTakes
  dsimp only
  split <;> simp

/-- R32, R77: a STALE gate that a dispatch command takes queues its GATE_STATE notice. -/
theorem ncu_dispatchTakes (s : State) (g : GateIx) : (State.dispatchTakes s g).ncu =
    if (State.gate s g).state = .stale then Ncu.notify s.ncu (.gateState g .service) else s.ncu := by
  unfold State.dispatchTakes
  dsimp only
  by_cases h : (State.gate s g).state = .stale <;> split <;> simp [noticeState_ncu, h]

theorem sqe_dispatchTakes (s : State) (g : GateIx) :
    (State.dispatchTakes s g).sqe = { s.sqe with owned := (State.dispatchTakes s g).sqe.owned } := by
  unfold State.dispatchTakes
  dsimp only
  split
  · simp only [State.reportOwnership, noticeState_frame, State.setGate_sqe]
  · simp only [noticeState_frame, State.setGate_sqe]

/-- R131: the ownership set goes by which gates the engine owns. -/
theorem ownership_congr {s t : State} (h : OwnershipOk s) (hs : t.sqe.owned = s.sqe.owned)
    (ho : ∀ k, (State.gate t k).owner = .engine ↔ (State.gate s k).owner = .engine) : OwnershipOk t := by
  unfold OwnershipOk
  rw [hs, h]
  refine List.filter_congr fun k _ => ?_
  rw [Bool.eq_iff_iff, beq_iff_eq, beq_iff_eq]
  exact (ho k).symm

/-- R131: a gate that dispatch takes from the engine is reported, and any other leaves the ownership set as it is. -/
theorem ownership_dispatchTakes {s : State} (h : OwnershipOk s) (g : GateIx) :
    OwnershipOk (State.dispatchTakes s g) := by
  unfold State.dispatchTakes
  dsimp only
  split
  · exact ownership_report _
  · rename_i howner
    refine ownership_congr h (by simp only [noticeState_frame, State.setGate_sqe]) fun k => ?_
    rw [gate_noticeState, gate_setGate]
    split
    · subst_vars
      simp [howner]
    · rfl

/-- R73, R77: cases 3 and 6: a usable command is admitted when it is urgent or the engine does not own the gate. -/
theorem laterCases_dispatch {s : State} {g : GateIx} {c : DispatchCommand}
    (hs : (State.gate s g).state = .service ∨ (State.gate s g).state = .stale)
    (h : State.urgentCase s g c = true ∨ (State.gate s g).owner ≠ .engine) :
    State.laterCases s g (some c) = State.caseDispatch s g c (State.urgentCase s g c) := by
  have hnot : ¬ ((State.gate s g).state = .blocked ∨ (State.gate s g).state = .localControl) := by
    rcases hs with e | e <;> rw [e] <;> decide
  unfold State.laterCases
  dsimp only
  cases hu : State.urgentCase s g c with
  | true => exact if_pos rfl
  | false =>
    have howner := h.resolve_left (by rw [hu]; decide)
    rw [if_neg (by decide), if_neg howner, if_neg hnot]

/-- R74: case 4: no urgent close takes the gate from the engine. -/
theorem laterCases_engine {s : State} {g : GateIx} (ho : (State.gate s g).owner = .engine)
    {cmd : Option DispatchCommand} (h : ∀ c, cmd = some c → State.urgentCase s g c = false) :
    State.laterCases s g cmd = State.caseEngine s g cmd := by
  unfold State.laterCases
  cases cmd with
  | none => exact if_pos ho
  | some c =>
    dsimp only
    rw [h c rfl, if_neg (by decide), if_pos ho]

/-- R73: a command that is not urgent, or asks for more than the admitted opening, or comes to a BLOCKED or LOCAL gate,
is no urgent close. -/
theorem urgentCase_eq_false {s : State} {g : GateIx} {c : DispatchCommand}
    (h : c.urgent = false ∨ (State.gate s g).admitted < DispatchCommand.request c ∨
      (State.gate s g).state = .blocked ∨ (State.gate s g).state = .localControl) :
    State.urgentCase s g c = false := by
  unfold State.urgentCase
  rcases h with h | h | h | h
  · simp [h]
  · simp [Nat.not_le.mpr h]
  · simp [h]
  · simp [h]

/-- R74: the hold count is cleared and a usable command refused before the engine's target is admitted. -/
def State.enginePursues (s : State) (g : GateIx) (cmd : Option DispatchCommand) : State :=
  State.refuse (State.setGate s g { State.gate s g with holdCount := 0 }) g cmd .engineOwned

theorem caseEngine_eq {s : State} {g : GateIx} {a : Target} (h : (State.gate s g).target = some a)
    (cmd : Option DispatchCommand) : State.caseEngine s g cmd =
      State.admitFrame (State.enginePursues s g cmd) g (targetSubmission a) (refusedValue cmd) := by
  have ha : (State.gate s g).target.getD (.set (State.gate s g).admitted) = a := by rw [h]; rfl
  exact congrArg
    (fun b => State.admitFrame (State.enginePursues s g cmd) g (targetSubmission b) (refusedValue cmd)) ha

theorem gate_enginePursues_none (s : State) (g : GateIx) : State.gate (State.enginePursues s g none) g =
    { State.gate s g with holdCount := 0 } := gate_setGate_self _ _ _

theorem gate_enginePursues_some (s : State) (g : GateIx) (c : DispatchCommand) :
    State.gate (State.enginePursues s g (some c)) g =
      { State.gate s g with holdCount := 0, refusal := .engineOwned, refused := c.valueA } := by
  simp [State.enginePursues, State.refuse]

theorem sqe_enginePursues (s : State) (g : GateIx) (cmd : Option DispatchCommand) :
    (State.enginePursues s g cmd).sqe = s.sqe := by
  cases cmd <;> rfl

/-- R65: the admission of an engine target keeps the gate's last tag. -/
theorem withAdmission_target (r : Gate) (a : Target) (x : Stages) (c : BitVec 32) :
    Gate.withAdmission r (targetSubmission a) x c = { r with
      admitted := x.out.result, flow := x.flow, lastCycle := c,
      lastDir := newDirection r.lastDir r.admitted x.out.result } := by
  cases a <;> rfl

/-- R63, R64: the frame of an admission of an engine target. -/
theorem admittedFrame_target (g : GateIx) (a : Target) (x : Stages) (tag : Byte) (refused : Option Word) :
    admittedFrame g (targetSubmission a) x tag refused = setpoint g x.out.result
      (refused.getD (BitVec.ofNat 16 (targetSubmission a).request)) tag
      (setpointFlags x.urgent (Stages.clamp x) false true) := by
  cases a <;> rfl

theorem AdmissionStart.refused {s u : State} {g : GateIx} (h : AdmissionStart s u g) (cmd : Option DispatchCommand)
    (why : RefusalReason) : AdmissionStart s (State.refuse u g cmd why) g := by
  cases cmd with
  | none => exact h
  | some c => refine (h.changed ?_ ?_ ?_ ?_).counted _ <;> rfl

theorem AdmissionStart.pursued {s u : State} {g : GateIx} (h : AdmissionStart s u g) (cmd : Option DispatchCommand) :
    AdmissionStart s (State.enginePursues u g cmd) g := by
  refine (h.changed ?_ ?_ ?_ ?_).refused cmd _ <;> rfl

/-- R68: a refusal of a usable command is counted in REFUSED, and reaches the NCU no further. -/
theorem refuse_notices (s : State) (g : GateIx) (cmd : Option DispatchCommand) (why : RefusalReason) :
    (State.refuse s g cmd why).ncu.queue = s.ncu.queue ∧ (State.refuse s g cmd why).ncu.lost = s.ncu.lost ∧
    CountersKept [.refused] s.ncu (State.refuse s g cmd why).ncu := by
  cases cmd with
  | none => exact ⟨rfl, rfl, rfl, rfl, rfl, fun _ _ => rfl⟩
  | some c => exact ⟨rfl, rfl, rfl, rfl, rfl, fun d hd => counter_count_ne _ (List.ne_of_not_mem_cons hd)⟩

/-- R68, R74: what the pursuit of an engine target does to the NCU's record before its admission. -/
theorem enginePursues_notices (s : State) (g : GateIx) (cmd : Option DispatchCommand) :
    (State.enginePursues s g cmd).ncu.queue = s.ncu.queue ∧ (State.enginePursues s g cmd).ncu.lost = s.ncu.lost ∧
    CountersKept [.refused] s.ncu (State.enginePursues s g cmd).ncu := refuse_notices _ g cmd _

theorem countersKept_notify (u : Ncu) (n : Notice) : CountersKept [] u (Ncu.notify u n) :=
  (reported_notify u n).countersKept fun _ _ => rfl

theorem countersKept_trans {u v w : Ncu} {l k : List Counter} (h : CountersKept l u v) (h' : CountersKept k v w) :
    CountersKept (l ++ k) u w := by
  obtain ⟨hbank, htravel, hreversals, hstation⟩ := h
  obtain ⟨hbank', htravel', hreversals', hstation'⟩ := h'
  refine ⟨hbank'.trans hbank, htravel'.trans htravel, hreversals'.trans hreversals, fun c hc => ?_⟩
  rw [List.mem_append, not_or] at hc
  exact (hstation' c hc.2).trans (hstation c hc.1)

theorem counter_refuse_ne {c : Counter} (h : c ≠ .refused) (s : State) (g : GateIx) (cmd : Option DispatchCommand)
    (why : RefusalReason) : State.counter (State.refuse s g cmd why) c = State.counter s c := by
  cases cmd with
  | none => rfl
  | some d => exact counter_count_ne _ h

/-- What an admission of gate `g` with the stages `x`, begun at `u`, leaves of `s` when its frame leaves the COMMAND
slot: the record, the frame, the tally, and what stands as it was. -/
structure AdmissionLeft (s u t : State) (g : GateIx) (y : Submission) (x : Stages) (refused : Option Word) : Prop where
  gate : State.gate t g = Gate.withAdmission (State.gate u g) y x (State.cycle s)
  rpu : t.rpu = { s.rpu with
    slotPos := s.rpu.slotPos + 1, ringOut := some (admittedFrame g y x (State.gate u g).lastTag refused) }
  others : OtherGatesKept g s t
  tally : t.adu.tally = s.adu.tally + x.flow - (State.gate s g).flow
  kept : CommandFrameKept s t
  sqe : t.sqe = u.sqe
  ownership : OwnershipOk u → OwnershipOk t
  ncu : t.ncu = (State.admission u g y).ncu

theorem AdmissionStart.left {s u : State} {g : GateIx} (h : AdmissionStart s u g) {y : Submission} {x : Stages}
    (hx : x = State.stages s g y) (refused : Option Word) :
    AdmissionLeft s u
      (State.emit (State.admission u g y) (admittedFrame g y x (State.gate u g).lastTag refused)) g y x refused := by
  obtain ⟨hrpu, hscu, hclu, hsqe, hspu, hmgu, htst, hhanded, hfree, hpending, hbase, hgauges⟩ := admit_frame u g y
  obtain ⟨kscu, kclu, kspu, kmgu, ktst, khanded, kgauges, kbase, kfree, kpending⟩ := h.kept
  refine ⟨?_, ?_, fun k hk => ?_, ?_,
    ⟨hscu.trans kscu, hclu.trans kclu, hspu.trans kspu, hmgu.trans kmgu, htst.trans ktst, hhanded.trans khanded,
      hgauges.trans kgauges, hbase.trans kbase, hfree.trans kfree, hpending.trans kpending⟩,
    hsqe, fun hown => ownership_congr hown (congrArg Sqe.owned hsqe) fun k => ?_, rfl⟩
  · rw [gate_emit, gate_admit, if_pos rfl, h.stages_eq, h.cycle, hx]
  · simp only [State.emit, hrpu, h.rpu]
  · rw [gate_emit, gate_admit, if_neg hk]
    exact h.others k hk
  · refine (admit_tally u g y).trans ?_
    rw [h.tally, h.flow, h.stages_eq, hx, tallyChange]
  · rw [gate_emit, gate_admit]
    split
    · subst_vars
      rfl
    · rfl

/-- R61: the counters that no admission raises. -/
theorem AdmissionLeft.counter_eq {s u t : State} {g : GateIx} {y : Submission} {x : Stages} {refused : Option Word}
    (h : AdmissionLeft s u t g y x refused) {c : Counter} (hc : c ∉ admissionCounters) :
    State.counter t c = State.counter u c := by
  rw [State.counter, h.ncu, ← State.counter, counter_admission_eq, Stages.counts_eq_zero _ hc, raised_zero]

/-- R56, R63: a COMMAND slot whose selection comes to an admission. -/
theorem exec_admitted {s u : State} {g : GateIx} (hat : AtCommand s g) {f : Frame} (hf : Frame.isMarker f = false)
    (hc : GateState.counted (State.gate s g).state = true) (ht : State.tripped s g = false)
    (ho : (State.gate s g).owner ≠ .trip) (hu : AdmissionStart s u g) {y : Submission} {x : Stages}
    (hx : x = State.stages s g y) {refused : Option Word} {cmd : Option DispatchCommand}
    (hcmd : cmd = State.usable s (dispatchCommand g f))
    (hp : State.laterCases (State.commandTaken s g f) g cmd = State.admitFrame u g y refused) :
    ∃ t, exec (.commandSlotFrame f) s = .next t ∧ AdmissionLeft s u t g y x refused := by
  refine ⟨_, ?_, hu.left hx refused⟩
  rw [exec_commandSlotFrame hat hf hc ht ho (hcmd ▸ hp.symm), hx, ← hu.stages_eq]
  rfl

end Sys2Proof.Machine

namespace Sys2Proof.GateRing

open Machine Safety

/-- Settles O30: the command is taken, urgent or not, and its request admitted from the state as it was. -/
theorem dispatchCommandIsAdmitted : Obligations.DispatchCommandIsAdmitted := by
  unfold Obligations.DispatchCommandIsAdmitted
  intro s g f urgent hat huse hstate htrip howner hurgent hor
  obtain ⟨y, hy⟩ : ∃ y : Submission, y = ⟨.dispatch, f.valueA.toNat, urgent, f.tag⟩ := ⟨_, rfl⟩
  obtain ⟨u, hu⟩ : ∃ u, u = State.dispatchTakes (State.commandTaken s g f) g := ⟨_, rfl⟩
  have hcounted : GateState.counted (State.gate s g).state = true := by
    rcases hstate with e | e <;> rw [e] <;> rfl
  have hcase : State.urgentCase (State.commandTaken s g f) g ⟨f.valueA, urgentFlag f.flags, f.tag⟩ = urgent := by
    rw [hurgent, State.urgentCase, gate_commandTaken]
    rcases hstate with e | e <;> simp [e, DispatchCommand.request]
  have hlater : State.laterCases (State.commandTaken s g f) g (State.usable s (dispatchCommand g f)) =
      State.admitFrame u g y none := by
    rw [usable_of_usable huse, laterCases_dispatch (by rwa [gate_commandTaken]) (by rwa [hcase, gate_commandTaken]),
      hcase, hu, hy]
    rfl
  have hstart : AdmissionStart s u g := hu ▸ (admissionStart_commandTaken s g f).taken
  have hgate := gate_dispatchTakes (State.commandTaken s g f) g
  have hncu := ncu_dispatchTakes (State.commandTaken s g f) g
  have hsqe := sqe_dispatchTakes (State.commandTaken s g f) g
  rw [← hu, gate_commandTaken] at hgate hncu
  rw [← hu, sqe_commandTaken] at hsqe
  rw [ncu_commandTaken, slotCounts_of_usable huse] at hncu
  have hown (h : OwnershipOk s) : OwnershipOk u := hu ▸
    ownership_dispatchTakes (ownership_congr h (by rw [sqe_commandTaken]) fun k => by rw [gate_commandTaken]) g
  have hkept : CountersKept [] s.ncu u.ncu := by
    rw [hncu]
    split
    · exact countersKept_notify _ _
    · exact ⟨rfl, rfl, rfl, fun _ _ => rfl⟩
  obtain ⟨t, ht, left⟩ := exec_admitted hat (isMarker_of_usable huse) hcounted htrip howner hstart rfl rfl hlater
  refine ⟨t, _, ht, by rw [hy], by rw [stages_r, hy],
    hstart.reported rfl left.ncu (fun _ _ => List.not_mem_nil) hkept (congrArg Ncu.queue hncu)
      (congrArg Ncu.lost hncu),
    ?_, ?_, left.others, left.tally, fun c hc => ?_, ?_, fun h => left.ownership (hown h), left.kept⟩
  · rw [left.gate, hgate, hy]
    rcases hstate with e | e <;> simp [Gate.withAdmission, Submission.frameTag, e]
  · have hxurgent : (State.stages s g y).urgent = urgent := by
      rw [stages_urgent, stages_r, hy]
      dsimp only
      rw [hurgent, Bool.and_assoc, Bool.and_self]
    have hsource : (Source.dispatch == Source.engine) = false := rfl
    rw [left.rpu, admittedFrame, hxurgent, Stages.clamp, stages_r, hy]
    simp [Submission.frameTag, hsource]
  · obtain ⟨-, -, -, hstation⟩ := hkept
    exact (left.counter_eq hc).trans (hstation c List.not_mem_nil)
  · rw [left.sqe]
    exact hsqe

/-- Settles O31: the gate's target is admitted from the state as it was, whatever command is refused. -/
theorem engineTargetIsPursued : Obligations.EngineTargetIsPursued := by
  unfold Obligations.EngineTargetIsPursued
  intro s g f a hat hf hcounted htrip howner htarget hnot
  obtain ⟨y, hy⟩ : ∃ y, y = targetSubmission a := ⟨_, rfl⟩
  obtain ⟨cmd, hcmd⟩ : ∃ cmd, cmd = State.usable s (dispatchCommand g f) := ⟨_, rfl⟩
  obtain ⟨u, hu⟩ : ∃ u, u = State.enginePursues (State.commandTaken s g f) g cmd := ⟨_, rfl⟩
  have hstart : AdmissionStart s u g := hu ▸ (admissionStart_commandTaken s g f).pursued cmd
  have hurgent (c : DispatchCommand) (hc : cmd = some c) :
      State.urgentCase (State.commandTaken s g f) g c = false := by
    by_cases huse : Usable s g f
    · rw [hcmd, usable_of_usable huse, Option.some.injEq] at hc
      subst hc
      refine urgentCase_eq_false ?_
      rw [gate_commandTaken]
      exact hnot.resolve_left (not_not_intro huse)
    · rw [hcmd, usable_of_silent huse] at hc
      cases hc
  have hlater : State.laterCases (State.commandTaken s g f) g cmd = State.admitFrame u g y (refusedValue cmd) := by
    rw [laterCases_engine (by rwa [gate_commandTaken]) hurgent, caseEngine_eq (by rwa [gate_commandTaken]), hu, hy]
  obtain ⟨t, ht, left⟩ := exec_admitted hat hf hcounted htrip (by rw [howner]; decide) hstart rfl hcmd hlater
  obtain ⟨hqueue, hlost, hslot⟩ := slotCounts_notices s g f
  obtain ⟨hqueue', hlost', hrefuse⟩ := enginePursues_notices (State.commandTaken s g f) g cmd
  rw [← hu, ncu_commandTaken] at hqueue' hlost' hrefuse
  refine ⟨t, _, y, _, ht, by rw [hy]; cases a <;> rfl, rfl, stages_r _ _ _,
    hstart.reported rfl left.ncu (by decide) (countersKept_trans hslot hrefuse) (hqueue'.trans hqueue)
      (hlost'.trans hlost),
    rfl, fun huse => ?_, fun hsilent => ?_, fun c hc => ?_, left.others, left.tally, ?_, left.kept⟩
  · have hsome := usable_of_usable huse
    rw [← hcmd] at hsome
    subst hsome
    have hgate := gate_enginePursues_some (State.commandTaken s g f) g ⟨f.valueA, urgentFlag f.flags, f.tag⟩
    rw [← hu, gate_commandTaken] at hgate
    refine ⟨?_, ?_, ?_⟩
    · rw [left.gate, hy, withAdmission_target, hgate]
      rfl
    · rw [left.counter_eq (by decide), hu]
      refine (counter_count_self _ _).trans ?_
      rw [counter_setGate, counter_setGate, State.counter, ncu_commandTaken, slotCounts_of_usable huse]
      rfl
    · rw [left.rpu, hy, admittedFrame_target, hgate]
      rfl
  · rw [usable_of_silent hsilent] at hcmd
    subst hcmd
    have hgate := gate_enginePursues_none (State.commandTaken s g f) g
    rw [← hu, gate_commandTaken] at hgate
    refine ⟨?_, ?_, ?_⟩
    · rw [left.gate, hy, withAdmission_target, hgate]
      rfl
    · rw [left.counter_eq (by decide), hu]
      obtain ⟨-, -, -, hstation⟩ := hslot
      exact hstation .refused (by decide)
    · rw [left.rpu, hy, admittedFrame_target, hgate]
      rfl
  · have hc' : c ∉ admissionCounters ∧ c ≠ .refused := by
      simpa [admissionCounters, and_assoc] using hc
    rw [left.counter_eq hc'.1, hu, State.enginePursues, counter_refuse_ne hc'.2]
    rfl
  · rw [left.sqe, hu, sqe_enginePursues, sqe_commandTaken]

end Sys2Proof.GateRing

namespace Sys2Proof.Machine

open Safety

/-! ### The ownership set under the acts of the blocks (R131) -/

/-- R131: an act that reaches neither the engine's record nor the gates' leaves the ownership set right. -/
theorem ownership_kept {s t : State} (h : OwnershipOk s) (hs : t.sqe = s.sqe) (ha : t.adu = s.adu) : OwnershipOk t :=
  ownership_congr h (congrArg Sqe.owned hs) fun k => by rw [gate_congr (congrArg Adu.gates ha)]

/-- R131: a change of one gate's record that does not move it into or out of the engine. -/
theorem ownership_setGate {s : State} (h : OwnershipOk s) {g : GateIx} {r : Gate}
    (hr : r.owner = .engine ↔ (State.gate s g).owner = .engine) : OwnershipOk (State.setGate s g r) := by
  refine ownership_congr h rfl fun k => ?_
  rw [gate_setGate]
  split
  · subst_vars
    exact hr
  · rfl

/-- R131: the set of a station without engine-owned gates is empty. -/
theorem ownership_of_no_engine {s : State} (hq : s.sqe.owned = []) (hg : ∀ g, (State.gate s g).owner ≠ .engine) :
    OwnershipOk s := by
  unfold OwnershipOk
  rw [hq, eq_comm, List.filter_eq_nil_iff]
  exact fun g _ => by simpa using hg g

/-- R131: an act that keeps the ownership set right does so when it is repeated. -/
theorem ownership_repeat {f : State → State} (h : ∀ {s}, OwnershipOk s → OwnershipOk (f s)) (n : Nat) {s : State}
    (hs : OwnershipOk s) : OwnershipOk (Nat.repeat f n s) := by
  induction n with
  | zero => exact hs
  | succ n ih => exact h ih

/-- R131: acts that keep the ownership set right do so one after another. -/
theorem ownership_foldl {β : Type} {f : State → β → State}
    (hf : ∀ {s}, OwnershipOk s → ∀ b, OwnershipOk (f s b)) (l : List β) {s : State} (h : OwnershipOk s) :
    OwnershipOk (l.foldl f s) :=
  List.foldlRecOn l f h fun _ hs b _ => hf hs b

/-- R70, R71: a trip takes gate `g`: its owner is TRIP, its hold count 0, and it is closed to its travel_min. -/
def State.tripCloses (s : State) (g : GateIx) : State :=
  State.tripClosure
    (State.reportOwnership (State.setGate s g { State.gate s g with owner := .trip, holdCount := 0 })) g

/-- R70: case 2 is the closure and the refusal of a usable command. -/
theorem caseTrip_eq (s : State) (g : GateIx) (cmd : Option DispatchCommand) :
    State.caseTrip s g cmd = (State.refuse (State.tripCloses s g) g cmd .tripped,
      tripFrame g (travelMin s.table g) (refusedValue cmd) (State.gate (State.tripCloses s g) g).lastTag) := rfl

/-- R70: a trip that takes a gate reports the ownership set, and closes the gate without another change of owner. -/
theorem ownership_tripCloses (s : State) (g : GateIx) : OwnershipOk (State.tripCloses s g) :=
  ownership_setGate (s := State.reportOwnership _) (ownership_report _) (by rfl)

theorem gate_countHold_owner (s : State) (g : GateIx) :
    (State.gate (State.countHold s g) g).owner = (State.gate s g).owner := by
  simp only [State.countHold, gate_noticeState, gate_setGate_self]

/-- R41, R80: a gate that leaves service goes to no engine, and leaves none. -/
theorem owner_leaveService (r : Gate) (st : GateState) :
    (Gate.leaveService r st).owner = .engine ↔ r.owner = .engine := by
  unfold Gate.leaveService
  dsimp only
  split
  · rename_i h
    simp [h.2]
  · rfl

/-- R30: a gate emptied goes to no engine, and leaves none. -/
theorem owner_vacated (r : Gate) : (Gate.vacated r).owner = .engine ↔ r.owner = .engine := by
  unfold Gate.vacated
  dsimp only
  split
  · rename_i h
    simp [h]
  · rfl

/-- R87: a re-rating changes of every gate's record the recorded flow alone. -/
theorem gate_reRate (s : State) (g : GateIx) : State.gate (State.reRate s) g =
    if GateState.counted (State.gate s g).state then
      { State.gate s g with flow := flowAt s.table g (State.head s) (State.gate s g).admitted }
    else State.gate s g := by
  have hgates : (State.reRate s).adu.gates = (State.mapGates s (fun k r =>
      if GateState.counted r.state then
        { r with flow := flowAt s.table k (State.head s) r.admitted }
      else r)).adu.gates := rfl
  rw [gate_congr hgates, gate_mapGates]

/-- R19, R149: after a reset no gate is engine-owned. -/
theorem ownership_powerOn (s : State) (asserted : Bool) : OwnershipOk (State.powerOn s asserted) :=
  ownership_of_no_engine rfl fun g => by
    have hg : State.gate (State.powerOn s asserted) g = State.gate State.reset g := rfl
    rw [hg, gate_reset]
    decide

/-- R21: the record of a gate at the end of the start-up load. -/
theorem gate_startAdu (s : State) (g : GateIx) : State.gate (State.startAdu s) g =
    if gateKind s.table g = .absent then {} else { state := .acquire } := by
  simp [State.gate, State.startAdu]

/-- R21, R127: at the end of the start-up load no gate is engine-owned: the first action list is still to be applied. -/
theorem ownership_startEngine (s : State) :
    OwnershipOk (State.startEngine (State.startClu (State.startScu (State.startAdu s)))) := by
  refine ownership_of_no_engine rfl fun g => ?_
  have hg : State.gate (State.startEngine (State.startClu (State.startScu (State.startAdu s)))) g =
      State.gate (State.startAdu s) g := rfl
  rw [hg, gate_startAdu]
  split <;> decide

section

variable {s : State} (h : OwnershipOk s)

include h

/-! #### Notices, counts and bounds -/

theorem ownership_noticeState (g : GateIx) (old new : GateState) : OwnershipOk (State.noticeState s g old new) := by
  obtain ⟨ha, -, -, hs, -⟩ := noticeState_frame s g old new
  exact ownership_kept h hs ha

theorem ownership_recomputeBounds : OwnershipOk (State.recomputeBounds s) := h

theorem ownership_countIf (b : Bool) (c : Counter) : OwnershipOk (State.countIf s b c) := by
  cases b <;> exact h

/-! #### The selection (04) -/

theorem ownership_refuse (g : GateIx) (cmd : Option DispatchCommand) (why : RefusalReason) :
    OwnershipOk (State.refuse s g cmd why) := by
  cases cmd with
  | none => exact h
  | some c => exact ownership_setGate h (by rfl)

/-- R56: an admission changes no owner. -/
theorem ownership_admission (g : GateIx) (x : Submission) : OwnershipOk (State.admission s g x) := by
  obtain ⟨-, -, -, hsqe, -⟩ := admit_frame s g x
  refine ownership_congr h (congrArg Sqe.owned hsqe) fun k => ?_
  rw [gate_admit]
  split
  · subst_vars
    rfl
  · rfl

omit h in
theorem ownership_caseTrip (s : State) (g : GateIx) (cmd : Option DispatchCommand) :
    OwnershipOk (State.caseTrip s g cmd).1 := ownership_refuse (ownership_tripCloses s g) g cmd _

/-- R72: a gate that a trip no longer holds takes its new owner, and the ownership set is reported. -/
theorem ownership_releaseTrip (g : GateIx) : OwnershipOk (State.releaseTrip s g) := by
  unfold State.releaseTrip
  dsimp only
  split
  · exact ownership_report _
  · exact h

theorem ownership_caseDispatch (g : GateIx) (c : DispatchCommand) (urgent : Bool) :
    OwnershipOk (State.caseDispatch s g c urgent).1 :=
  ownership_admission (ownership_dispatchTakes h g) g _

theorem ownership_caseEngine (g : GateIx) (cmd : Option DispatchCommand) : OwnershipOk (State.caseEngine s g cmd).1 :=
  ownership_admission (ownership_refuse (ownership_setGate h (by rfl)) g cmd _) g _

theorem ownership_countHold (g : GateIx) : OwnershipOk (State.countHold s g) :=
  ownership_noticeState (ownership_setGate h (by rfl)) g _ _

/-- R78, R79: a silent slot of a gate that the engine does not own gives it to no one or to its loss action. -/
theorem ownership_caseSilent {g : GateIx} (ho : (State.gate s g).owner ≠ .engine) :
    OwnershipOk (State.caseSilent s g).1 := by
  have ho' : (State.gate (State.countHold s g) g).owner ≠ .engine := by rwa [gate_countHold_owner]
  unfold State.caseSilent
  dsimp only
  split
  · exact ownership_admission (ownership_setGate (ownership_countHold h g) (by simp [ho'])) g _
  · refine ownership_setGate (ownership_countHold h g) (iff_of_false ?_ ho')
    dsimp only
    split
    · decide
    · exact ho'

theorem ownership_laterCases (g : GateIx) (cmd : Option DispatchCommand) :
    OwnershipOk (State.laterCases s g cmd).1 := by
  unfold State.laterCases
  cases cmd with
  | some c =>
    dsimp only
    split
    · exact ownership_caseDispatch h g c true
    · split
      · exact ownership_caseEngine h g _
      · split
        · exact ownership_refuse h g _ _
        · exact ownership_caseDispatch h g c false
  | none =>
    dsimp only
    split
    · exact ownership_caseEngine h g _
    · rename_i ho
      split
      · exact ownership_refuse h g _ _
      · exact ownership_caseSilent h ho

/-- R67: the selection keeps the ownership set right, whichever case applies. -/
theorem ownership_select (g : GateIx) (cmd : Option DispatchCommand) : OwnershipOk (State.select s g cmd).1 := by
  unfold State.select
  dsimp only
  split
  · exact ownership_refuse h g _ _
  · split
    · exact ownership_caseTrip s g _
    · exact ownership_laterCases (ownership_releaseTrip h g) g _

theorem ownership_slotNotReached (g : GateIx) : OwnershipOk (State.slotNotReached s g) := by
  unfold State.slotNotReached
  dsimp only
  split
  · exact ownership_countHold h g
  · exact h

/-! #### Gate records and their installs (02) -/

theorem ownership_retrackTo (g : GateIx) (m : Nat) (st : GateState) (fault : Bool) :
    OwnershipOk (State.retrackTo s g m st fault) := by
  obtain ⟨-, -, -, hothers, hsqe, -⟩ := retrackTo_frame s g m st fault
  refine ownership_congr h (congrArg Sqe.owned hsqe) fun k => ?_
  by_cases hk : k = g
  · subst hk
    rw [gate_retrackTo]
    dsimp only
    split
    · rfl
    · exact owner_leaveService _ st
  · rw [hothers k hk]

theorem ownership_block (g : GateIx) (fault out : Bool) : OwnershipOk (State.block s g fault out) :=
  ownership_noticeState (ownership_setGate h (by exact owner_leaveService _ .blocked)) g _ _

theorem ownership_deviationCheck (g : GateIx) (m : Nat) : OwnershipOk (State.deviationCheck s g m) := by
  unfold State.deviationCheck
  dsimp only
  split
  · split <;> exact ownership_setGate h (by rfl)
  · exact ownership_setGate h (by rfl)

theorem ownership_actOnReport (g : GateIx) (m : Nat) (d : DriveStatus) : OwnershipOk (State.actOnReport s g m d) := by
  unfold State.actOnReport
  dsimp only
  split
  · exact h
  · exact ownership_retrackTo h g m _ _
  iterate 2 -- SERVICE and STALE
    · split
      · exact ownership_deviationCheck h g m
      · exact ownership_block h g _ _
      · exact ownership_retrackTo h g m _ _
  · exact ownership_retrackTo h g m _ _
  · split
    · exact ownership_setGate h (by rfl)
    · split
      · exact ownership_setGate h (by rfl)
      · exact ownership_retrackTo h g m _ _

theorem ownership_takePosition (g : GateIx) (a b : Word) : OwnershipOk (State.takePosition s g a b) := by
  unfold State.takePosition
  dsimp only
  split
  · exact h
  · exact ownership_actOnReport (ownership_setGate h (by rfl)) g _ _

theorem ownership_floodTest : OwnershipOk (State.floodTest s) := by
  obtain ⟨-, ha, -, hs, -⟩ := floodTest_frame s
  exact ownership_kept h hs ha

theorem ownership_takeStage (g : GaugeIx) (level : Word) (bad : Bool) :
    OwnershipOk (State.takeStage s g level bad) := by
  unfold State.takeStage
  dsimp only
  split
  · exact h
  · split
    · exact ownership_floodTest h
    · exact h

theorem ownership_gateOut (g : GateIx) : OwnershipOk (State.gateOut s g) := by
  unfold State.gateOut
  dsimp only
  split
  · exact h
  · refine ownership_block ?_ g _ _
    exact h
  · exact ownership_setGate h (by rfl)
  · exact ownership_block h g _ _

theorem ownership_gateIn (g : GateIx) : OwnershipOk (State.gateIn s g) := by
  unfold State.gateIn
  dsimp only
  split
  · split <;> exact ownership_setGate h (by rfl)
  · exact h

theorem ownership_installGate (g : GateIx) : OwnershipOk (State.installGate s g) := by
  unfold State.installGate
  dsimp only
  split
  · refine ownership_noticeState (ownership_setGate ?_ (owner_vacated _)) g _ _
    exact h
  · split
    · exact ownership_setGate h (by rfl)
    · exact h

theorem ownership_reRate : OwnershipOk (State.reRate s) := by
  refine ownership_congr h rfl fun k => ?_
  rw [gate_reRate]
  split <;> rfl

/-! #### The schedule, the links and the engine (05 to 07) -/

theorem ownership_takeBoundary : OwnershipOk (State.takeBoundary s) := by
  unfold State.takeBoundary State.boundary
  split
  · exact ownership_kept h (by simp [floodExit_frame, notifyOpt_frame]) (by simp [floodExit_frame, notifyOpt_frame])
  · exact h

theorem ownership_produce (p : Port) (m : Produced) : OwnershipOk (State.produce s p m) := by
  obtain ⟨-, ha, -, hs, -⟩ := produce_frame s p m
  exact ownership_kept h hs ha

theorem ownership_takeReRating : OwnershipOk (State.takeReRating s) := by
  unfold State.takeReRating State.produceRelease
  split
  · exact h
  · rename_i n rest _
    have hr : OwnershipOk (State.reRate { s with handed := { s.handed with reRatings := rest } }) := ownership_reRate h
    split
    · exact hr
    · refine ownership_produce ?_ _ _
      exact hr

theorem ownership_takeMaturity : OwnershipOk (State.takeMaturity s) := by
  unfold State.takeMaturity State.mature
  split
  · exact h
  · dsimp only
    split <;> exact h

theorem ownership_windowTest : OwnershipOk (State.windowTest s) := by
  unfold State.windowTest
  split
  · dsimp only
    split
    · split
      · exact h
      · split <;> exact h
    · exact h
  · exact h

/-- R130: an entry changes no owner itself; its action list does, when the ADU applies it. -/
theorem ownership_enter (dst : Nat) (cause : EntryCause) : OwnershipOk (State.enter s dst cause) := by
  obtain ⟨-, ha, -, -, -, -, -, -, hs⟩ := enter_frame s dst cause
  refine ownership_congr h (by rw [hs]; rfl) fun k => ?_
  rw [gate_congr (congrArg Adu.gates ha)]

theorem ownership_takeTransition : OwnershipOk (State.takeTransition s) := by
  unfold State.takeTransition
  split
  · split
    · exact ownership_enter h _ _
    · exact h
  · exact h

theorem ownership_evaluate : OwnershipOk (State.evaluate s) := by
  by_cases he : s.handed.evaluation = true
  · have ht : OwnershipOk (State.takeTransition { s with handed := { s.handed with evaluation := false } }) :=
      ownership_takeTransition h
    rw [evaluate_eq he]
    dsimp only
    split
    · exact ht
    · exact ht
  · rw [State.evaluate, if_neg he]
    exact h

/-- R75: an action list applied reports the ownership set. -/
theorem ownership_takeActions : OwnershipOk (State.takeActions s) := by
  unfold State.takeActions
  split
  · exact h
  · exact ownership_report _

theorem ownership_takeCurtail : OwnershipOk (State.takeCurtail s) := by
  unfold State.takeCurtail
  split
  · exact h
  · refine ownership_produce ?_ _ _
    exact h

theorem ownership_takeAges : OwnershipOk (State.takeAges s) := by
  unfold State.takeAges
  split <;> exact h

/-- Log 8: the acts that a marker left owing keep the ownership set right. -/
theorem ownership_settle : OwnershipOk (State.settle s) := by
  rw [settle_eq]
  have hcounts : OwnershipOk (State.settleCounts (State.takeBoundary s)) :=
    ownership_evaluate (ownership_windowTest
      (ownership_repeat ownership_takeMaturity _
        (ownership_repeat ownership_takeReRating _ (ownership_takeBoundary h))))
  exact ownership_takeAges
    (ownership_repeat ownership_takeCurtail _ (ownership_repeat ownership_takeActions _ hcounts))

theorem ownership_dropCounts (r : LinkPort) : OwnershipOk (State.dropCounts s r) :=
  ownership_countIf (ownership_countIf h _ _) _ _

theorem ownership_setPort (p : Port) (r : LinkPort) :
    OwnershipOk (State.setPort s p r) := ownership_kept h (by simp) (by simp)

theorem ownership_transmit (p : Port) : OwnershipOk (State.transmit s p) := by
  unfold State.transmit
  dsimp only
  split <;> exact ownership_setPort h p _

theorem ownership_placeReply (p : Port) (m : LinkMsg) : OwnershipOk (State.placeReply s p m) := by
  unfold State.placeReply
  dsimp only
  split
  · exact ownership_setPort h p _
  · exact h

theorem ownership_placeArrival (e : Arrival) : OwnershipOk (State.placeArrival s e) := by
  unfold State.placeArrival
  split
  · exact h
  · split
    · exact h
    · split <;> exact h

theorem ownership_takeTaken (p : Port) (m : LinkMsg) : OwnershipOk (State.takeTaken s p m) := by
  unfold State.takeTaken
  dsimp only
  split
  · exact ownership_setPort h p _
  · exact h

theorem ownership_setCurtail (c d : Nat) : OwnershipOk (State.setCurtail s c d) := by
  unfold State.setCurtail
  split <;> exact h

/-- R109: no message changes an owner. -/
theorem ownership_disposeMsg (p : Port) (m : LinkMsg) : OwnershipOk (State.disposeMsg s p m) := by
  unfold State.disposeMsg
  split
  · exact h
  · split
    · exact ownership_takeTaken h p m
    · split
      · exact ownership_placeReply (ownership_placeArrival h _) p m
      · split
        · exact ownership_placeReply (ownership_setCurtail h _ _) p m
        · exact h

theorem ownership_validMsg (p : Port) : OwnershipOk (State.validMsg s p) := by
  unfold State.validMsg
  dsimp only
  split <;> exact ownership_setPort h p _

theorem ownership_miswiredMsg (p : Port) : OwnershipOk (State.miswiredMsg s p) := by
  unfold State.miswiredMsg
  dsimp only
  split
  · exact h
  · exact ownership_setPort (s := State.count s _) h p _

theorem ownership_linkArrival (p : Port) (m : LinkMsg) : OwnershipOk (State.linkArrival s p m) := by
  unfold State.linkArrival
  split
  · exact h
  · split
    · exact h
    · split
      · exact ownership_miswiredMsg h p
      · exact ownership_disposeMsg (ownership_validMsg h p) p m

theorem ownership_byteTimeout (p : Port) (n : Nat) : OwnershipOk (State.byteTimeout s p n) := by
  unfold State.byteTimeout
  split
  · exact h
  · exact ownership_countIf h _ _

theorem ownership_fitPort (p : Port) : OwnershipOk (State.fitPort s p) := by
  unfold State.fitPort
  dsimp only
  split
  · exact ownership_setPort h p _
  · exact h
  · exact h
  · exact ownership_dropCounts (ownership_setPort h p _) _
  · refine ownership_dropCounts ?_ _
    exact ownership_setPort h p _

/-! #### The panel inputs and the local tick (08) -/

theorem ownership_handInput (i : PanelInput) (level : Bool) : OwnershipOk (State.handInput s i level) := by
  cases i with
  | floodAlarm =>
    cases level with
    | true => exact ownership_floodTest h
    | false => exact h
  | maintEnable => exact h
  | trip u => cases level <;> exact ownership_report _

theorem ownership_takeInput (i : PanelInput) : OwnershipOk (State.takeInput s i) := by
  unfold State.takeInput
  dsimp only
  split
  · exact h
  · refine ownership_handInput ?_ i _
    exact h

theorem ownership_raise (x : TickPart) : OwnershipOk (State.raise s x) := by
  obtain ⟨ha, -, hs, -⟩ := raise_frame s x
  exact ownership_kept h hs ha

theorem ownership_expire (x : TickPart) : OwnershipOk (State.expire s x) := by
  cases x with
  | gap => exact h
  | silence p =>
    refine ownership_dropCounts ?_ _
    exact ownership_setPort h p _
  | taken p => exact ownership_setPort h p _
  | beacon p => exact ownership_setPort h p _
  | sample i => exact ownership_takeInput h i

theorem ownership_tickPart (x : TickPart) : OwnershipOk (State.tickPart s x) := by
  unfold State.tickPart
  dsimp only
  split
  · exact ownership_expire (ownership_raise h x) x
  · exact ownership_raise h x

theorem ownership_tickOnce (x : TickPart) : OwnershipOk (State.tickOnce s x) := by
  unfold State.tickOnce
  split
  · exact h
  · exact ownership_tickPart h x

theorem ownership_takeAhead (x : TickPart) : OwnershipOk (State.takeAhead s x) := by
  rcases takeAhead_cases s x with ⟨-, e⟩ | ⟨-, e⟩ <;> rw [e]
  · exact h
  · exact ownership_tickPart h x

theorem ownership_tickAhead (x : TickPart) : OwnershipOk (State.tickAhead s x) := by
  unfold State.tickAhead
  split
  · exact ownership_takeAhead h x
  · exact h

theorem ownership_driveInput (i : PanelInput) (level sampled : Bool) :
    OwnershipOk (State.driveInput s i level sampled) := by
  unfold State.driveInput
  dsimp only
  split
  · refine ownership_takeAhead ?_ _
    exact h
  · exact h

theorem ownership_endTick : OwnershipOk (State.endTick s) := h

theorem ownership_tick : OwnershipOk (State.tick s) :=
  ownership_endTick (ownership_foldl ownership_tickOnce sampleParts
    (ownership_foldl ownership_transmit bothPorts
      (ownership_foldl ownership_tickOnce tickParts (ownership_settle h))))

/-! #### The Table Store and reset (09) -/

theorem ownership_restart : OwnershipOk (State.restart s) := ownership_enter h _ _

theorem ownership_installGates : OwnershipOk (State.installGates s) :=
  ownership_foldl ownership_installGate allGates h

theorem ownership_handInstall (n : Nat) : OwnershipOk (State.handInstall s n) := by
  unfold State.handInstall
  split
  · exact ownership_installGate h _
  · split
    · exact ownership_recomputeBounds (ownership_floodTest h)
    · split
      · exact ownership_enter h _ _
      · split
        · exact ownership_fitPort (ownership_fitPort h .up) .down
        · exact h

theorem ownership_install (n : Nat) (words : WordStore) : OwnershipOk (State.install s n words) := by
  unfold State.install
  dsimp only
  refine ownership_handInstall ?_ n
  split
  · exact ownership_windowTest h
  · exact h

theorem ownership_takeReload (x : InstallTaker) : OwnershipOk (State.takeReload s x) := by
  unfold State.takeReload
  cases x with
  | adu => exact ownership_installGates h
  | scu => exact ownership_recomputeBounds (ownership_floodTest h)
  | sqe => exact ownership_restart h
  | clu => exact ownership_fitPort (ownership_fitPort h .up) .down
  | mgu => exact h

theorem ownership_completeStore (ok : Bool) : OwnershipOk (State.completeStore s ok) := by
  unfold State.completeStore
  split
  · split <;> exact h
  · exact h

theorem ownership_completeCommission (ok : Bool) : OwnershipOk (State.completeCommission s ok) := by
  unfold State.completeCommission
  split
  · dsimp only
    split
    · split <;> exact h
    · exact h
  · exact h

theorem ownership_completeReload (order : List InstallTaker) : OwnershipOk (State.completeReload s order) := by
  unfold State.completeReload
  split
  · split
    · refine ownership_foldl ownership_takeReload _ ?_
      exact ownership_windowTest h
    · exact h
  · exact h

theorem ownership_firstReading : OwnershipOk (State.firstReading s) := by
  have handed_on : ∀ {u : State}, OwnershipOk u → ∀ i, OwnershipOk (State.handIfActive u i) := by
    intro u hu i
    unfold State.handIfActive
    split
    · exact ownership_handInput hu i true
    · exact hu
  have read : ∀ {u : State}, OwnershipOk u → ∀ i, OwnershipOk (State.readInput u i) := fun hu _ => hu
  exact ownership_foldl handed_on allInputs (ownership_foldl read allInputs h)

theorem ownership_completeLoad : OwnershipOk (State.completeLoad s) := by
  unfold State.completeLoad
  split
  · exact ownership_firstReading (ownership_startEngine _)
  · exact h

/-! #### Management requests (09) -/

theorem ownership_command (c : Command) (arg : Nat) : OwnershipOk (State.command s c arg) := by
  cases c with
  | engineHold | engineRun | engineStep => exact ownership_evaluate h
  | engineRestart => exact ownership_enter (ownership_evaluate h) _ _
  | store | reload | lockRaise | lockLower | scheduleStart | floodCancel => exact h
  | commissionLock =>
    show OwnershipOk (State.startCommission s)
    unfold State.startCommission
    split <;> exact h
  | gateOut =>
    show OwnershipOk (if h : arg < 24 then State.gateOut s ⟨arg, h⟩ else s)
    split
    · exact ownership_gateOut h _
    · exact h
  | gateIn =>
    show OwnershipOk (if h : arg < 24 then State.gateIn s ⟨arg, h⟩ else s)
    split
    · exact ownership_gateIn h _
    · exact h
  | floodDeclare =>
    refine ownership_floodTest ?_
    exact h
  | curtailRequest => exact ownership_produce h _ _

theorem ownership_checkInstall : OwnershipOk (State.checkInstall s) := by
  unfold State.checkInstall
  split
  · exact ownership_install h _ _
  · exact h

theorem ownership_writeWord (a : Nat) (b : Word) : OwnershipOk (State.writeWord s a b) := by
  unfold State.writeWord
  split
  · exact h
  · split <;> exact h

theorem ownership_setPointer (sp : Space) (p : BitVec 12) : OwnershipOk (State.setPointer s sp p) := by
  cases sp <;> exact h

theorem ownership_perform (op : Op) (f : Frame) : OwnershipOk (State.perform s op f).1 := by
  cases op with
  | read | openEdit | abandon | capture => exact h
  | readNext | setPointer => exact ownership_setPointer h _ _
  | write => exact ownership_writeWord h _ _
  | writeNext => exact ownership_setPointer (ownership_writeWord h _ _) _ _
  | check => exact ownership_checkInstall h
  | command =>
    simp only [State.perform]
    split
    · exact ownership_command h _ _
    · exact h

/-- R150, R151: a request that passes every test is carried out, and any other changes nothing. -/
theorem ownership_manage (f : Frame) : OwnershipOk (State.manage s f).1 := by
  unfold State.manage
  split
  · exact h
  · exact ownership_perform h _ f
  · exact h

/-! #### The ring (01) -/

theorem ownership_emit (f : Frame) : OwnershipOk (State.emit s f) := h

theorem ownership_passFrame (f : Frame) : OwnershipOk (State.passFrame s f) := by
  rw [passFrame_eq]
  exact ownership_emit (ownership_countIf h _ _) _

theorem ownership_tap (binding : Nat) (f : Frame) : OwnershipOk (State.tap s binding f) := by
  unfold State.tap
  split
  · exact h
  · split
    · split
      · split
        · exact ownership_takePosition h _ _ _
        · exact h
      · exact h
    · split
      · split
        · split
          · exact ownership_takeStage h _ _ _
          · exact h
        · exact h
      · exact h

theorem ownership_takeHeartbeat (q : BitVec 4) : OwnershipOk (State.takeHeartbeat s q) := by
  have hw := ownership_windowTest h
  unfold State.takeHeartbeat
  dsimp only
  split
  · split <;> exact hw
  · split
    · split <;> exact hw
    · exact hw

theorem ownership_slotFrame (x : SlotTable) (p : Nat) (f : Frame) : OwnershipOk (State.slotFrame s x p f) := by
  unfold State.slotFrame
  split
  · split
    · exact ownership_emit (ownership_select (ownership_countIf h _ _) _ _) _
    · exact ownership_emit (ownership_countIf h _ _) _
  · exact ownership_passFrame (ownership_tap h _ f) f
  · unfold State.managementSlot
    split
    · exact h
    · split
      · exact ownership_emit (ownership_manage h f) _
      · exact ownership_passFrame h f
  · unfold State.noticeSlot
    split
    · split
      · exact h
      · exact ownership_passFrame h f
    · exact ownership_passFrame h f
  · unfold State.heartbeatSlot
    refine ownership_passFrame ?_ f
    split
    · exact ownership_takeHeartbeat h _
    · exact h
  · exact ownership_passFrame h f

theorem ownership_runFrame (x : SlotTable) (f : Frame) : OwnershipOk (State.runFrame s x f) := by
  unfold State.runFrame
  dsimp only
  split
  · refine ownership_slotFrame ?_ x _ f
    exact h
  · refine ownership_passFrame ?_ f
    exact h

theorem ownership_closeCycle : OwnershipOk (State.closeCycle s) := by
  unfold State.closeCycle
  split
  · split
    · refine ownership_foldl ownership_slotNotReached _ ?_
      exact h
    · exact h
  · exact h

theorem ownership_endLoss : OwnershipOk (State.endLoss s) := by
  unfold State.endLoss
  split <;> exact h

theorem ownership_markerEvent (late : Bool) : OwnershipOk (State.markerEvent s late) := by
  cases late <;> exact h

theorem ownership_openCycle (cycle : BitVec 32) : OwnershipOk (State.openCycle s cycle) := h

theorem ownership_takeMarker (f : Frame) (late : Bool) : OwnershipOk (State.takeMarker s f late) :=
  ownership_emit (ownership_markerEvent
    (ownership_openCycle (ownership_endLoss (ownership_closeCycle (ownership_settle h))) _) late) f

/-- R1: no frame taken at ring-in leaves the ownership set wrong. -/
theorem ownership_ringArrival (f : Frame) (late : Bool) : OwnershipOk (State.ringArrival s f late) := by
  unfold State.ringArrival
  split
  · exact h
  · split
    · exact ownership_takeMarker h f late
    · dsimp only
      have hc := ownership_countIf (ownership_takeAges h) (!Frame.good f) .badCheck
      split
      · exact ownership_runFrame hc _ f
      · exact ownership_passFrame hc f

end

/-! #### Every command -/

open Laws in
/-- R131: every command keeps the ownership set right. -/
theorem ownership_exec {c : Instr} {s t : State} (h : OwnershipOk s) (hx : exec c s = .next t) : OwnershipOk t := by
  cases hc : Families.ringFrame c with
  | some f =>
    obtain ⟨late, e⟩ := exec_ringFrame hc s
    cases e.symm.trans hx
    exact ownership_ringArrival h f late
  | none =>
    cases c with
    | powerOn => cases hx; exact ownership_powerOn s false
    | resetNAssert short =>
      cases hx
      unfold State.assertReset
      split
      · exact ownership_powerOn s _
      · exact h
    | resetNRelease => cases hx; exact h
    | startUpLoadComplete => cases hx; exact ownership_completeLoad h
    | ringLoss | beaconDue p | silenceExpiry p | takenTimeout p => cases hx; exact ownership_tickAhead h _
    | intervalBoundary => cases hx; exact ownership_takeBoundary h
    | reRating => cases hx; exact ownership_takeReRating h
    | arrivalMaturity => cases hx; exact ownership_takeMaturity h
    | supervisionWindowExpiry => cases hx; exact ownership_windowTest h
    | engineEvaluation => cases hx; exact ownership_evaluate h
    | actionListApply => cases hx; exact ownership_takeActions h
    | curtailUp => cases hx; exact ownership_takeCurtail h
    | storeComplete ok => cases hx; exact ownership_completeStore h ok
    | reloadComplete order => cases hx; exact ownership_completeReload h order
    | commissionLockComplete ok => cases hx; exact ownership_completeCommission h ok
    | panelInputChange i level sampled => cases hx; exact ownership_driveInput h i level sampled
    | linkTransmit p => cases hx; exact ownership_transmit h p
    | linkByteTimeout p n => cases hx; exact ownership_byteTimeout h p n
    | beacon p m | taken p m | release m | curtail m | wrongDirectionMessage p k m | badCheckMessage p m
    | miswiredMessage p m => cases hx; exact ownership_linkArrival h _ _
    | _ => cases hc

end Sys2Proof.Machine

namespace Sys2Proof.GateRing

open Machine Safety

/-- Settles O9: a step is a command or a local tick, and each act of a block that changes an owner into or from
ENGINE reports the set. -/
theorem stepKeepsOwnershipSet : Obligations.StepKeepsOwnershipSet := by
  unfold Obligations.StepKeepsOwnershipSet
  intro s t hsound hstep
  unfold step at hstep
  split at hstep
  · rw [← Host.Outcome.next.inj hstep]
    exact ownership_tick hsound.ownership
  · rename_i c rest _
    refine ownership_exec (s := { s with pending := rest }) ?_ hstep
    exact hsound.ownership

end Sys2Proof.GateRing

namespace Sys2Proof.Machine

open Safety

/-! ### An action list applied (R75) -/

/-- R75: the ADU applies the oldest action list it has been handed. -/
theorem takeActions_cons {s : State} {l : ActionList} {rest : List ActionList} (h : s.handed.actions = l :: rest) :
    State.takeActions s = State.applyActions { s with handed := { s.handed with actions := rest } } l := by
  simp only [State.takeActions, h]

/-- R75: a named gate that a trip holds keeps its owner, with the target stored. -/
theorem applyAction_named_trip {r : Gate} (h : r.owner = .trip) (a : Target) :
    Gate.applyAction (some a) r = { r with released := false, target := some a } := if_pos h

/-- R75: any other named gate goes to the engine. -/
theorem applyAction_named {r : Gate} (h : r.owner ≠ .trip) (a : Target) :
    Gate.applyAction (some a) r = { r with released := false, owner := .engine, target := some a } := if_neg h

/-- R75: a gate no longer named leaves the engine. -/
theorem applyAction_unnamed_engine {r : Gate} (h : r.owner = .engine) :
    Gate.applyAction none r = { r with released := false, owner := .dispatch, target := none } := if_pos h

theorem applyAction_unnamed {r : Gate} (h : r.owner ≠ .engine) :
    Gate.applyAction none r = { r with released := false } := if_neg h

end Sys2Proof.Machine

namespace Sys2Proof.GateRing

open Machine Safety

/-- Settles O25: each gate's record by its owner and by whether the list names it, the set reported after them. -/
theorem actionListSetsOwners : Obligations.ActionListSetsOwners := by
  unfold Obligations.ActionListSetsOwners
  intro s l rest h
  obtain ⟨u, hu⟩ : ∃ u : Machine.State, u = { s with handed := { s.handed with actions := rest } } := ⟨_, rfl⟩
  have hx : exec .actionListApply s = .next (State.applyActions u l) := by
    rw [hu, ← takeActions_cons h]
    rfl
  have hgate (g : GateIx) : State.gate (State.applyActions u l) g =
      Gate.applyAction (ActionList.find l g) (State.gate s g) := by
    rw [gate_applyActions, hu]
    rfl
  refine ⟨_, hx, fun g a hf ho => ?_, fun g a hf ho => ?_, fun g hf ho => ?_, fun g hf ho => ?_,
    ownership_report _, ?_⟩
  · rw [hgate, hf, applyAction_named_trip ho]
  · rw [hgate, hf, applyAction_named ho]
  · rw [hgate, hf, applyAction_unnamed_engine ho]
  · rw [hgate, hf, applyAction_unnamed ho]
  · subst hu
    exact ⟨rfl, rfl, rfl, rfl, rfl, rfl, rfl, rfl, rfl, rfl, rfl, rfl⟩

end Sys2Proof.GateRing

namespace Sys2Proof.Machine

open Safety

/-! ### A COMMAND slot whose gate is not moved (R69, R76, R81) -/

/-- R8, R67: a frame in the COMMAND slot of gate `g` is answered by the selection's outcome. -/
theorem exec_selected {s : State} {g : GateIx} (h : AtCommand s g) {f : Frame} (hf : Frame.isMarker f = false)
    {p : State × Frame} (hp : State.select (State.commandTaken s g f) g (dispatchCommand g f) = p) :
    exec (.commandSlotFrame f) s = .next (State.emit p.1 p.2) := by
  rw [← hp]
  exact congrArg Host.Outcome.next (ringArrival_select h hf false)

/-- R69: case 1: a gate whose flow is not counted. -/
theorem select_uncounted {s : State} {g : GateIx} (h : GateState.counted (State.gate s g).state = false)
    (cmd : Option DispatchCommand) :
    State.select s g cmd = (State.refuse s g (State.usable s cmd) .notService, blankIdle) := if_pos h

/-- R76: case 5: a gate in BLOCKED or LOCAL that neither a trip nor the engine commands. -/
theorem select_blocked {s : State} {g : GateIx}
    (hs : (State.gate s g).state = .blocked ∨ (State.gate s g).state = .localControl)
    (ht : State.tripped s g = false) (he : (State.gate s g).owner ≠ .engine) (ho : (State.gate s g).owner ≠ .trip)
    (cmd : Option DispatchCommand) :
    State.select s g cmd = (State.refuse s g (State.usable s cmd) .notService,
      holdFrame g (State.gate s g) (refusedValue (State.usable s cmd))) := by
  have hc : GateState.counted (State.gate s g).state = true := by
    rcases hs with e | e <;> rw [e] <;> rfl
  rw [select_laterCases hc ht ho]
  unfold State.laterCases
  cases State.usable s cmd with
  | none =>
    dsimp only
    rw [if_neg he, if_pos hs]
    rfl
  | some c =>
    dsimp only
    rw [urgentCase_eq_false (.inr (.inr hs)), if_neg (by decide), if_neg he, if_pos hs]
    rfl

/-- R69, R76: a COMMAND slot whose selection refuses a usable command and does nothing else. -/
theorem exec_refused {s : State} {g : GateIx} (h : AtCommand s g) {f : Frame} (hf : Frame.isMarker f = false)
    {out : Option DispatchCommand → Frame}
    (hsel : ∀ cmd, cmd = State.usable s (dispatchCommand g f) →
      State.select (State.commandTaken s g f) g (dispatchCommand g f) =
        (State.refuse (State.commandTaken s g f) g cmd .notService, out cmd)) :
    (Usable s g f → exec (.commandSlotFrame f) s = .next (tookFrame
      (State.count (withGate s g (fun r => { r with refusal := .notService, refused := f.valueA })) .refused)
      (out (some ⟨f.valueA, urgentFlag f.flags, f.tag⟩)))) ∧
    (Silent s g f → exec (.commandSlotFrame f) s = .next (tookFrame (slotCounts s g f) (out none))) := by
  refine ⟨fun huse => ?_, fun hsilent => ?_⟩
  · rw [exec_selected h hf (hsel _ (usable_of_usable huse).symm), State.commandTaken, slotCounts_of_usable huse]
    rfl
  · rw [exec_selected h hf (hsel _ (usable_of_silent hsilent).symm)]
    rfl

end Sys2Proof.Machine

namespace Sys2Proof.GateRing

open Machine Safety

/-- Settles O28: cases 1 and 5 of the selection, which refuse a usable command and move no gate. -/
theorem gateNotInServiceIsNotMoved : Obligations.GateNotInServiceIsNotMoved := by
  unfold Obligations.GateNotInServiceIsNotMoved
  intro s g f hat hf
  refine ⟨fun hc => ?_, fun hs ht he ho => ?_⟩
  · refine exec_refused hat hf (out := fun _ => blankIdle) fun cmd hcmd => ?_
    rw [hcmd, select_uncounted (by rwa [gate_commandTaken]), usable_commandTaken]
  · refine exec_refused hat hf (out := fun cmd => holdFrame g (State.gate s g) (refusedValue cmd)) fun cmd hcmd => ?_
    rw [hcmd, select_blocked (by rwa [gate_commandTaken]) (by rwa [tripped_commandTaken]) (by rwa [gate_commandTaken])
      (by rwa [gate_commandTaken]), usable_commandTaken, gate_commandTaken]

end Sys2Proof.GateRing

namespace Sys2Proof.Machine

open Safety

/-! ### A trip closure (R70, R71) -/

/-- 02 Table 2-1: the code of a WICKET. -/
theorem gateKind_eq_wicket_iff (t : WordStore) (g : GateIx) :
    gateKind t g = .wicket ↔ WordStore.nat t (0x080 + 16 * g.val) = 1 := by
  have hw : gateWord t g 0 = WordStore.nat t (0x080 + 16 * g.val) := rfl
  rw [← hw]
  unfold gateKind
  generalize gateWord t g 0 = kind
  split <;> simp_all

theorem gateUnit_eq (t : WordStore) (g : GateIx) : gateUnit t g = WordStore.nat t (0x081 + 16 * g.val) := by
  rw [gateUnit, gateWord]
  congr 1
  omega

/-- R147, R148: an input is read as active once the start-up load has completed. -/
theorem inputActive_iff (s : State) (i : PanelInput) : State.inputActive s i = true ↔ LineActive s i := by
  simp [State.inputActive, LineActive]

/-- R70: case 2 applies to a WICKET whose unit's trip line is active. -/
theorem tripped_iff (s : State) (g : GateIx) : State.tripped s g = true ↔
    gateKind s.table g = .wicket ∧ ∃ u : UnitIx, gateUnit s.table g = u.val ∧ LineActive s (.trip u) := by
  rw [State.tripped, Bool.and_eq_true, beq_iff_eq]
  refine and_congr_right fun _ => ?_
  constructor
  · intro h
    split at h
    · rename_i hu
      exact ⟨⟨_, hu⟩, rfl, (inputActive_iff s _).mp h⟩
    · exact absurd h (by decide)
  · rintro ⟨u, hu, hline⟩
    have hlt : gateUnit s.table g < 6 := hu ▸ u.isLt
    have hfin : (⟨gateUnit s.table g, hlt⟩ : UnitIx) = u := Fin.ext hu
    rw [dif_pos hlt, hfin]
    exact (inputActive_iff s _).mpr hline

/-- R70: case 2 of the selection. -/
theorem select_tripped {s : State} {g : GateIx} (hc : GateState.counted (State.gate s g).state = true)
    (ht : State.tripped s g = true) (cmd : Option DispatchCommand) :
    State.select s g cmd = State.caseTrip s g (State.usable s cmd) := by
  simp [State.select, hc, ht]

/-- R70, R71: the record of a gate that a trip closes. -/
theorem gate_tripCloses (s : State) (g : GateIx) : State.gate (State.tripCloses s g) g =
    { State.gate s g with
      owner := .trip, holdCount := 0, admitted := travelMin s.table g,
      flow := flowAt s.table g (State.head s) (travelMin s.table g), lastCycle := State.cycle s,
      lastDir := .none } := by
  refine (gate_setGate_self _ _ _).trans ?_
  rw [gate_reportOwnership, gate_setGate_self]
  rfl

theorem gate_tripCloses_ne (s : State) {g k : GateIx} (h : k ≠ g) :
    State.gate (State.tripCloses s g) k = State.gate s k :=
  (gate_setGate_ne _ _ h).trans (gate_setGate_ne _ _ h)

theorem tally_tripCloses (s : State) (g : GateIx) : (State.tripCloses s g).adu.tally =
    s.adu.tally + flowAt s.table g (State.head s) (travelMin s.table g) - (State.gate s g).flow := by
  rw [State.tripCloses, State.tripClosure, gate_reportOwnership, gate_setGate_self]
  rfl

theorem travel_tripCloses (s : State) (g k : GateIx) : (State.tripCloses s g).ncu.counters.travel[k] =
    if k = g then min 4294967295 (s.ncu.counters.travel[g] + distance (travelMin s.table g) (State.gate s g).admitted)
    else s.ncu.counters.travel[k] := by
  rw [State.tripCloses, State.tripClosure, travel_addTravel, gate_reportOwnership, gate_setGate_self]
  rfl

theorem gate_refuse_some (s : State) (g : GateIx) (c : DispatchCommand) (why : RefusalReason) :
    State.gate (State.refuse s g (some c) why) g = { State.gate s g with refusal := why, refused := c.valueA } :=
  gate_setGate_self _ _ _

/-- R70, R71: a trip takes gate `g` in its COMMAND slot, and a usable command is refused. -/
def State.tripAnswers (s : State) (g : GateIx) (cmd : Option DispatchCommand) : State :=
  State.refuse (State.tripCloses s g) g cmd .tripped

/-- R70, R71: a trip's answer reaches its gate's record, travel total and REFUSED, the tally and the ownership set. -/
theorem tripAnswers_frame (s : State) (g : GateIx) (cmd : Option DispatchCommand) :
    (State.tripAnswers s g cmd).rpu = s.rpu ∧ OtherGatesKept g s (State.tripAnswers s g cmd) ∧
    (State.tripAnswers s g cmd).adu.tally = (State.tripCloses s g).adu.tally ∧
    (State.tripAnswers s g cmd).ncu.counters.travel = (State.tripCloses s g).ncu.counters.travel ∧
    (State.tripAnswers s g cmd).ncu.counters.reversals = s.ncu.counters.reversals ∧
    (State.tripAnswers s g cmd).ncu.queue = s.ncu.queue ∧ (State.tripAnswers s g cmd).ncu.lost = s.ncu.lost ∧
    (State.tripAnswers s g cmd).ncu.bank = s.ncu.bank ∧
    (State.tripAnswers s g cmd).sqe = { s.sqe with owned := (State.tripAnswers s g cmd).sqe.owned } ∧
    CommandFrameKept s (State.tripAnswers s g cmd) := by
  have hothers : OtherGatesKept g s (State.tripAnswers s g cmd) := fun k hk => by
    obtain ⟨-, -, -, -, -, -, -, -, -, -, hrefuse⟩ := refuse_frame (State.tripCloses s g) g cmd .tripped
    exact (hrefuse k hk).trans (gate_tripCloses_ne s hk)
  have hkept : CommandFrameKept s (State.tripAnswers s g cmd) := by
    cases cmd <;> exact ⟨rfl, rfl, rfl, rfl, rfl, rfl, rfl, rfl, rfl, rfl⟩
  cases cmd <;> exact ⟨rfl, hothers, rfl, rfl, rfl, rfl, rfl, rfl, rfl, hkept⟩

/-- R68, R71: a closure is no admission: it counts a refused command alone. -/
theorem counter_tripAnswers_ne {c : Counter} (h : c ≠ .refused) (s : State) (g : GateIx)
    (cmd : Option DispatchCommand) : State.counter (State.tripAnswers s g cmd) c = State.counter s c :=
  (counter_refuse_ne h _ g cmd _).trans rfl

theorem counter_tripAnswers_some (s : State) (g : GateIx) (d : DispatchCommand) :
    State.counter (State.tripAnswers s g (some d)) .refused = min 65535 (State.counter s .refused + 1) :=
  counter_count_self _ _

theorem commandFrameKept_trans {s t u : State} (h : CommandFrameKept s t) (h' : CommandFrameKept t u) :
    CommandFrameKept s u := by
  obtain ⟨hscu, hclu, hspu, hmgu, htst, hhanded, hgauges, hbase, hfree, hpending⟩ := h
  obtain ⟨hscu', hclu', hspu', hmgu', htst', hhanded', hgauges', hbase', hfree', hpending'⟩ := h'
  exact ⟨hscu'.trans hscu, hclu'.trans hclu, hspu'.trans hspu, hmgu'.trans hmgu, htst'.trans htst,
    hhanded'.trans hhanded, hgauges'.trans hgauges, hbase'.trans hbase, hfree'.trans hfree, hpending'.trans hpending⟩

/-- R70, R72: a COMMAND slot of a gate whose unit is tripped. -/
theorem exec_tripped {s : State} {g : GateIx} (hat : AtCommand s g) {f : Frame} (hf : Frame.isMarker f = false)
    (hc : GateState.counted (State.gate s g).state = true) (ht : State.tripped s g = true)
    {cmd : Option DispatchCommand} (hcmd : cmd = State.usable s (dispatchCommand g f)) :
    exec (.commandSlotFrame f) s = .next (State.emit (State.tripAnswers (State.commandTaken s g f) g cmd)
      (tripFrame g (travelMin s.tst.table g) (refusedValue cmd) (State.gate s g).lastTag)) := by
  have hsel : State.select (State.commandTaken s g f) g (dispatchCommand g f) =
      State.caseTrip (State.commandTaken s g f) g cmd := by
    rw [select_tripped (by rwa [gate_commandTaken]) (by rwa [tripped_commandTaken]), usable_commandTaken, hcmd]
  rw [exec_selected hat hf hsel, caseTrip_eq, gate_tripCloses, gate_commandTaken, commandTaken_eq]
  rfl

/-! ### The owner after a trip (R72) -/

/-- R72: a selection that no trip takes begins with the release of the gate. -/
theorem select_untripped {s : State} {g : GateIx} (hc : GateState.counted (State.gate s g).state = true)
    (ht : State.tripped s g = false) (cmd : Option DispatchCommand) :
    State.select s g cmd = State.laterCases (State.releaseTrip s g) g (State.usable s cmd) := by
  simp [State.select, hc, ht]

/-- R72: a gate with owner TRIP that a trip no longer holds takes its new owner. -/
theorem releaseTrip_of_trip {s : State} {g : GateIx} (h : (State.gate s g).owner = .trip) : State.releaseTrip s g =
    State.reportOwnership
      (State.setGate s g (afterTrip (actionList s.tst.table s.sqe.current) g (State.gate s g))) := if_pos h

theorem releaseTrip_of_ne {s : State} {g : GateIx} (h : (State.gate s g).owner ≠ .trip) :
    State.releaseTrip s g = s := if_neg h

theorem gate_releaseTrip {s : State} {g : GateIx} (h : (State.gate s g).owner = .trip) :
    State.gate (State.releaseTrip s g) g = afterTrip (actionList s.tst.table s.sqe.current) g (State.gate s g) := by
  rw [releaseTrip_of_trip h, gate_reportOwnership, gate_setGate_self]

/-- R72: the counts of the frame and the release of its gate meet in no field. -/
theorem releaseTrip_commandTaken {s : State} {g : GateIx} (h : (State.gate s g).owner = .trip) (f : Frame) :
    State.releaseTrip (State.commandTaken s g f) g = State.commandTaken (State.releaseTrip s g) g f := by
  rw [releaseTrip_of_trip (by rwa [gate_commandTaken]), releaseTrip_of_trip h, gate_commandTaken, sqe_commandTaken]
  unfold State.commandTaken slotCounts
  cases !Frame.good f <;> cases misroutedFor g f <;> rfl

/-- R72: the selection for a gate with owner TRIP that no trip holds any more is the selection from the state in which
the gate has taken its new owner. -/
theorem exec_releaseTrip {s : State} {g : GateIx} (hat : AtCommand s g) {f : Frame} (hf : Frame.isMarker f = false)
    (hc : GateState.counted (State.gate s g).state = true) (ht : State.tripped s g = false)
    (ho : (State.gate s g).owner = .trip) :
    exec (.commandSlotFrame f) s = exec (.commandSlotFrame f) (State.releaseTrip s g) := by
  obtain ⟨u, hu⟩ : ∃ u, u = State.releaseTrip s g := ⟨_, rfl⟩
  have hu' := hu.trans (releaseTrip_of_trip ho)
  have hat' : AtCommand u g := by rw [hu']; exact hat
  have hc' : GateState.counted (State.gate u g).state = true := by rwa [hu, releaseTrip_state]
  have ht' : State.tripped u g = false := by rw [hu']; exact ht
  have ho' : (State.gate u g).owner ≠ .trip := by
    rw [hu, gate_releaseTrip ho]
    exact afterTrip_owner _ _ _
  have husable : State.usable u (dispatchCommand g f) = State.usable s (dispatchCommand g f) := by rw [hu']; rfl
  have hsel : State.select (State.commandTaken s g f) g (dispatchCommand g f) =
      State.select (State.commandTaken u g f) g (dispatchCommand g f) := by
    rw [select_untripped (by rwa [gate_commandTaken]) (by rwa [tripped_commandTaken]), releaseTrip_commandTaken ho,
      ← hu, select_untripped (by rwa [gate_commandTaken]) (by rwa [tripped_commandTaken]),
      releaseTrip_of_ne (by rwa [gate_commandTaken]), usable_commandTaken, usable_commandTaken, husable]
  rw [← hu, exec_selected hat hf hsel, exec_selected hat' hf rfl]

end Sys2Proof.Machine

namespace Sys2Proof.GateRing

open Machine Safety

/-- Settles O29: what tripped means, the closure of a tripped gate, and the owner after a trip. -/
theorem tripClosesGate : Obligations.TripClosesGate := by
  unfold Obligations.TripClosesGate
  refine ⟨fun s g => ?_, fun s g f hat hf hc ht => ?_, fun s g f hat hf hc ht ho => ?_⟩
  · rw [tripped_iff, gateKind_eq_wicket_iff, gateUnit_eq]
  · obtain ⟨cmd, hcmd⟩ : ∃ cmd, cmd = State.usable s (dispatchCommand g f) := ⟨_, rfl⟩
    obtain ⟨u, hu⟩ : ∃ u, u = State.commandTaken s g f := ⟨_, rfl⟩
    have hx := exec_tripped hat hf hc ht hcmd
    have start := admissionStart_commandTaken s g f
    rw [← hu] at hx start
    obtain ⟨-, -, -, -, htst, -, hgauges, -⟩ := start.kept
    have hhead := head_congr htst hgauges
    obtain ⟨hrpu, hothers, htally, htravel, hreversals, hqueue, hlost, hbank, hsqe, hkept⟩ :=
      tripAnswers_frame u g cmd
    have hclosed : State.gate (State.tripCloses u g) g = { State.gate s g with
        owner := .trip, holdCount := 0, admitted := travelMin s.tst.table g,
        flow := flowAt s.tst.table g (State.head s) (travelMin s.tst.table g), lastCycle := State.cycle s,
        lastDir := .none } := by
      rw [gate_tripCloses, State.table, htst, hhead, start.cycle, hu, gate_commandTaken]
    obtain ⟨hqueue', hlost', hbank', htravel', hreversals', hstation⟩ := slotCounts_notices s g f
    have hncu : u.ncu = (slotCounts s g f).ncu := by rw [hu, ncu_commandTaken]
    have hslot (c : Counter) : State.counter u c = State.counter (slotCounts s g f) c := by rw [hu]; rfl
    refine ⟨_, _, hx, rfl, fun huse => ?_, fun hsilent => ?_, fun k hk => ?_, ?_, ?_, fun k hk => ?_, ?_,
      fun c hne => (counter_tripAnswers_ne hne u g cmd).trans (hslot c),
      fun c hc => ?_, ?_, ?_, ?_, ?_, ?_, ?_⟩
    · rw [usable_of_usable huse] at hcmd
      subst hcmd
      refine ⟨?_, ?_, ?_⟩
      · rw [gate_emit, State.tripAnswers, gate_refuse_some, hclosed]
      · rw [counter_emit, counter_tripAnswers_some, hslot, slotCounts_of_usable huse]
      · simp only [State.emit, hrpu, start.rpu]
        rfl
    · rw [usable_of_silent hsilent] at hcmd
      subst hcmd
      refine ⟨hclosed, ?_, ?_⟩
      · exact (hslot .refused).trans (hstation .refused (by decide))
      · simp only [State.emit, hrpu, start.rpu]
        rfl
    · exact (hothers k hk).trans (start.others k hk)
    · refine htally.trans ?_
      rw [tally_tripCloses, start.tally, start.flow, State.table, htst, hhead]
    · refine (congrArg (fun v => v[g]) htravel).trans ?_
      rw [travel_tripCloses, if_pos rfl, hncu, htravel', start.admitted, State.table, htst]
    · refine (congrArg (fun v => v[k]) htravel).trans ?_
      rw [travel_tripCloses, if_neg hk, hncu, htravel']
    · rw [← hreversals', ← hncu]
      exact hreversals
    · have hne : c ∉ [Counter.badCheck, .misrouted] ∧ c ≠ .refused := by
        revert c
        decide
      exact (counter_tripAnswers_ne hne.2 u g cmd).trans ((hslot c).trans (hstation c hne.1))
    · exact hqueue.trans (hncu ▸ hqueue')
    · exact hlost.trans (hncu ▸ hlost')
    · exact hbank.trans (hncu ▸ hbank')
    · refine hsqe.trans ?_
      rw [hu, sqe_commandTaken]
      rfl
    · exact ownership_refuse (ownership_tripCloses u g) g cmd _
    · exact commandFrameKept_trans start.kept hkept
  · have hrelease := releaseTrip_of_trip ho
    refine ⟨State.releaseTrip s g, exec_releaseTrip hat hf hc ht ho, gate_releaseTrip ho, fun k hk => ?_, ?_, ?_⟩
    · rw [hrelease, gate_reportOwnership, gate_setGate_ne _ _ hk]
    · rw [hrelease]
      exact ownership_report _
    · rw [hrelease]
      rfl

end Sys2Proof.GateRing

namespace Sys2Proof.Machine

open Safety

/-! ### The part of the state that the bounds, the ports, the mode, the cycle and the locks go by -/

/-- What U and L, the ports, the supervision record, the mode, the open cycle and the locks are read from (`Steady`).
The ADU's gates and gauges, the engine, the notices and counters and what one block has handed another stand outside. -/
structure SteadyView where
  rpuState : RpuState
  active : Option SlotTable
  base : Nat
  floodRamp : Nat
  scu : Scu
  clu : Clu
  sup : SupState
  run : Bool
  lastSeq : Option (BitVec 4)
  window : Nat
  lock : Lock
  commission : Bool
  storedFlag : Bool

/-- The view of a state. -/
def State.steadyView (s : State) : SteadyView where
  rpuState := s.rpu.state
  active := s.rpu.active
  base := s.adu.base
  floodRamp := floodRampUp s.table
  scu := s.scu
  clu := s.clu
  sup := s.spu.sup
  run := s.spu.run
  lastSeq := s.spu.lastSeq
  window := s.spu.window
  lock := s.mgu.lock
  commission := s.mgu.commission
  storedFlag := s.tst.storedFlag

/-! #### The named updates outside the view -/

@[simp] theorem steadyView_setGate (s : State) (g : GateIx) (r : Gate) :
    (State.setGate s g r).steadyView = s.steadyView := rfl

@[simp] theorem steadyView_setTally (s : State) (n : Nat) : (State.setTally s n).steadyView = s.steadyView := rfl

@[simp] theorem steadyView_setGauge (s : State) (g : GaugeIx) (r : Gauge) :
    (State.setGauge s g r).steadyView = s.steadyView := rfl

@[simp] theorem steadyView_setPanel (s : State) (i : PanelInput) (r : PanelLine) :
    (State.setPanel s i r).steadyView = s.steadyView := rfl

@[simp] theorem steadyView_count (s : State) (c : Counter) : (State.count s c).steadyView = s.steadyView := rfl

@[simp] theorem steadyView_countIf (s : State) (b : Bool) (c : Counter) :
    (State.countIf s b c).steadyView = s.steadyView := by cases b <;> rfl

@[simp] theorem steadyView_addTravel (s : State) (g : GateIx) (d : Nat) :
    (State.addTravel s g d).steadyView = s.steadyView := rfl

@[simp] theorem steadyView_notify (s : State) (n : Notice) : (State.notify s n).steadyView = s.steadyView := rfl

@[simp] theorem steadyView_noticeState (s : State) (g : GateIx) (old new : GateState) :
    (State.noticeState s g old new).steadyView = s.steadyView := by
  unfold State.noticeState
  split <;> rfl

@[simp] theorem steadyView_reportOwnership (s : State) : (State.reportOwnership s).steadyView = s.steadyView := rfl

@[simp] theorem steadyView_emit (s : State) (f : Frame) : (State.emit s f).steadyView = s.steadyView := rfl

@[simp] theorem steadyView_dropCounts (s : State) (r : LinkPort) :
    (State.dropCounts s r).steadyView = s.steadyView := by simp [State.dropCounts]

/-! #### The selection and the gate records (02 to 04) -/

@[simp] theorem steadyView_admission (s : State) (g : GateIx) (x : Submission) :
    (State.admission s g x).steadyView = s.steadyView := by
  obtain ⟨hrpu, hscu, hclu, -, hspu, hmgu, htst, -, -, -, hbase, -⟩ := admit_frame s g x
  simp [State.steadyView, State.table, hrpu, hscu, hclu, hspu, hmgu, htst, hbase]

@[simp] theorem steadyView_refuse (s : State) (g : GateIx) (cmd : Option DispatchCommand) (why : RefusalReason) :
    (State.refuse s g cmd why).steadyView = s.steadyView := by cases cmd <;> simp [State.refuse]

@[simp] theorem steadyView_admitFrame (s : State) (g : GateIx) (x : Submission) (w : Option Word) :
    (State.admitFrame s g x w).1.steadyView = s.steadyView := steadyView_admission s g x

@[simp] theorem steadyView_caseTrip (s : State) (g : GateIx) (cmd : Option DispatchCommand) :
    (State.caseTrip s g cmd).1.steadyView = s.steadyView := by simp [State.caseTrip, State.tripClosure]

@[simp] theorem steadyView_releaseTrip (s : State) (g : GateIx) :
    (State.releaseTrip s g).steadyView = s.steadyView := by
  unfold State.releaseTrip
  dsimp only
  split <;> simp

@[simp] theorem steadyView_dispatchTakes (s : State) (g : GateIx) :
    (State.dispatchTakes s g).steadyView = s.steadyView := by
  unfold State.dispatchTakes
  dsimp only
  split <;> simp

@[simp] theorem steadyView_caseDispatch (s : State) (g : GateIx) (c : DispatchCommand) (urgent : Bool) :
    (State.caseDispatch s g c urgent).1.steadyView = s.steadyView := by simp [State.caseDispatch]

@[simp] theorem steadyView_caseEngine (s : State) (g : GateIx) (cmd : Option DispatchCommand) :
    (State.caseEngine s g cmd).1.steadyView = s.steadyView := by simp [State.caseEngine]

@[simp] theorem steadyView_caseBlocked (s : State) (g : GateIx) (cmd : Option DispatchCommand) :
    (State.caseBlocked s g cmd).1.steadyView = s.steadyView := by simp [State.caseBlocked]

@[simp] theorem steadyView_countHold (s : State) (g : GateIx) : (State.countHold s g).steadyView = s.steadyView := by
  simp [State.countHold]

@[simp] theorem steadyView_caseSilent (s : State) (g : GateIx) :
    (State.caseSilent s g).1.steadyView = s.steadyView := by
  unfold State.caseSilent
  dsimp only
  split <;> simp

@[simp] theorem steadyView_laterCases (s : State) (g : GateIx) (cmd : Option DispatchCommand) :
    (State.laterCases s g cmd).1.steadyView = s.steadyView := by
  unfold State.laterCases
  cases cmd with
  | some c => dsimp only; (repeat' split) <;> simp
  | none => dsimp only; (repeat' split) <;> simp

@[simp] theorem steadyView_select (s : State) (g : GateIx) (cmd : Option DispatchCommand) :
    (State.select s g cmd).1.steadyView = s.steadyView := by
  unfold State.select
  dsimp only
  split
  · simp [State.caseUncounted]
  · split <;> simp

@[simp] theorem steadyView_slotNotReached (s : State) (g : GateIx) :
    (State.slotNotReached s g).steadyView = s.steadyView := by
  unfold State.slotNotReached
  dsimp only
  split <;> simp

@[simp] theorem steadyView_retrackTo (s : State) (g : GateIx) (m : Nat) (st : GateState) (fault : Bool) :
    (State.retrackTo s g m st fault).steadyView = s.steadyView := by simp [State.retrackTo, State.retrack]

@[simp] theorem steadyView_block (s : State) (g : GateIx) (fault out : Bool) :
    (State.block s g fault out).steadyView = s.steadyView := by simp [State.block]

@[simp] theorem steadyView_deviationCheck (s : State) (g : GateIx) (m : Nat) :
    (State.deviationCheck s g m).steadyView = s.steadyView := by
  unfold State.deviationCheck
  dsimp only
  (repeat' split) <;> simp

@[simp] theorem steadyView_takePosition (s : State) (g : GateIx) (a b : Word) :
    (State.takePosition s g a b).steadyView = s.steadyView := by
  unfold State.takePosition State.actOnReport
  dsimp only
  (repeat' split) <;> simp

@[simp] theorem steadyView_gateOut (s : State) (g : GateIx) : (State.gateOut s g).steadyView = s.steadyView := by
  unfold State.gateOut
  dsimp only
  split <;> simp

@[simp] theorem steadyView_gateIn (s : State) (g : GateIx) : (State.gateIn s g).steadyView = s.steadyView := by
  unfold State.gateIn
  dsimp only
  (repeat' split) <;> simp

@[simp] theorem steadyView_installGate (s : State) (g : GateIx) :
    (State.installGate s g).steadyView = s.steadyView := by
  unfold State.installGate
  dsimp only
  (repeat' split) <;> simp

/-! #### The engine and what it hands on (07) -/

@[simp] theorem steadyView_enter (s : State) (dst : Nat) (cause : EntryCause) :
    (State.enter s dst cause).steadyView = s.steadyView := by
  obtain ⟨hrpu, hadu, hscu, hclu, hspu, hmgu, htst, -⟩ := enter_frame s dst cause
  simp [State.steadyView, State.table, hrpu, hadu, hscu, hclu, hspu, hmgu, htst]

@[simp] theorem steadyView_evaluate (s : State) : (State.evaluate s).steadyView = s.steadyView := by
  obtain ⟨hrpu, hadu, hscu, hclu, hspu, hmgu, htst, -⟩ := evaluate_frame s
  simp [State.steadyView, State.table, hrpu, hadu, hscu, hclu, hspu, hmgu, htst]

@[simp] theorem steadyView_takeActions (s : State) : (State.takeActions s).steadyView = s.steadyView := by
  unfold State.takeActions
  split <;> rfl

/-! #### Frames and markers (01) -/

@[simp] theorem steadyView_takeAges (s : State) : (State.takeAges s).steadyView = s.steadyView := by
  unfold State.takeAges
  split <;> rfl

@[simp] theorem steadyView_passFrame (s : State) (f : Frame) : (State.passFrame s f).steadyView = s.steadyView := by
  simp [passFrame_eq]

@[simp] theorem steadyView_endLoss (s : State) : (State.endLoss s).steadyView = s.steadyView := by
  unfold State.endLoss
  split <;> simp

@[simp] theorem steadyView_closeCycle (s : State) : (State.closeCycle s).steadyView = s.steadyView := by
  unfold State.closeCycle
  split
  · split
    · simp [foldl_keeps State.steadyView steadyView_slotNotReached]
    · rfl
  · rfl

/-! #### The words of the TABLE space -/

/-- A word written leaves every other word as it stands, in canonical form or not. -/
theorem read_write_ne (t : WordStore) {a b : Nat} (hb : b ≠ a) (w : Word) :
    WordStore.read (WordStore.write t a w) b = WordStore.read t b := by
  induction t with
  | nil =>
    unfold WordStore.write
    split <;> simp [WordStore.read, Ne.symm hb]
  | cons p rest ih =>
    obtain ⟨k, v⟩ := p
    unfold WordStore.write
    split
    · subst_vars
      split <;> simp [WordStore.read, Ne.symm hb]
    · split
      · split <;> simp [WordStore.read, Ne.symm hb]
      · simp [WordStore.read, ih]

/-- R158: a range of words copied leaves every word outside the range as it stands. -/
theorem read_copyRange_outside (src dst : WordStore) {base len a : Nat} (ha : a < base ∨ base + len ≤ a) :
    WordStore.read (WordStore.copyRange src base len dst) a = WordStore.read dst a := by
  unfold WordStore.copyRange
  induction len with
  | zero => simp
  | succ n ih =>
    rw [List.range_succ, List.foldl_append, List.foldl_cons, List.foldl_nil, read_write_ne _ (by omega)]
    exact ih (by omega)

/-- 11 Table 11-6: every group but STATION lies above STATION's words. -/
theorem groupBase_above_station {n : Nat} (h : n ≠ stationGroup) : 0x40 ≤ groupBase n := by
  have h : n ≠ 0 := h
  unfold groupBase
  (repeat' split) <;> omega

/-- 11 Table 11-7: `flood_ramp_up` is changed by an install of STATION alone. -/
theorem floodRampUp_installGroup {n : Nat} (h : n ≠ stationGroup) (words t : WordStore) :
    floodRampUp (installGroup n words t) = floodRampUp t := by
  have hbase := groupBase_above_station h
  simp only [floodRampUp, WordStore.long, WordStore.nat, installGroup]
  rw [read_copyRange_outside _ _ (by omega), read_copyRange_outside _ _ (by omega)]

/-- R162: `flood_ramp_up` is changed by no write to the request area. -/
theorem floodRampUp_write {a : Nat} (h : inRequestArea a = true) (t : WordStore) (w : Word) :
    floodRampUp (WordStore.write t a w) = floodRampUp t := by
  obtain ⟨ha, -⟩ := (inRequestArea_iff a).mp h
  simp only [floodRampUp, WordStore.long, WordStore.nat]
  rw [read_write_ne _ (by omega), read_write_ne _ (by omega)]

@[simp] theorem steadyView_writeWord (s : State) (a : Nat) (b : Word) :
    (State.writeWord s a b).steadyView = s.steadyView := by
  unfold State.writeWord
  split
  · simp [State.steadyView, floodRampUp_write ‹_›]
  · split <;> rfl

@[simp] theorem steadyView_setPointer (s : State) (sp : Space) (p : BitVec 12) :
    (State.setPointer s sp p).steadyView = s.steadyView := by cases sp <;> rfl

end Sys2Proof.Machine

namespace Sys2Proof.Machine

open Safety

/-! ### A steady state -/

/-- What every step keeps: the bounds, the ports, the supervision record, the mode, the open cycle and the locks sound,
and the stored commission flag set once it is. The bounds are asked for under the condition `current` alone: an
install has changed the STATION words before the SCU recomputes them. -/
structure Steady (current flagged : Prop) (s : State) : Prop where
  bounds : current → BoundsOk s
  ports : PortsOk s.clu
  supervision : SupervisionOk s.spu
  mode : ModeOk s.scu
  cycle : CycleOk s.rpu
  lock : LockOk s.mgu
  stored : flagged → s.tst.storedFlag = true

/-- Every field of `Steady` goes by the view. -/
theorem Steady.congr {c a : Prop} {s t : State} (h : Steady c a s) (e : t.steadyView = s.steadyView) :
    Steady c a t := by
  obtain ⟨hstate, hactive, hbase, hramp, hscu, hclu, hsup, hrun, hseq, hwindow, hlock, hcommission, hstored⟩ :=
    SteadyView.mk.inj e
  have hramp : floodRampUp t.tst.table = floodRampUp s.tst.table := hramp
  have hupper : upperNow t = upperNow s := by simp only [upperNow, hscu, hbase, hramp]
  have hlower : lowerNow t = lowerNow s := by simp only [lowerNow, hscu, hbase, hclu]
  refine ⟨fun hc => ?_, ?_, ?_, ?_, ?_, ?_, ?_⟩
  · simpa only [BoundsOk, upperTermNow, lowerTermNow, hupper, hlower, hscu, hclu] using h.bounds hc
  · simpa only [hclu] using h.ports
  · simpa only [SupervisionOk, hsup, hrun, hseq, hwindow] using h.supervision
  · simpa only [hscu] using h.mode
  · simpa only [CycleOk, hstate, hactive] using h.cycle
  · simpa only [LockOk, hlock, hcommission] using h.lock
  · simpa only [hstored] using h.stored

theorem Steady.of_sound {s : State} (h : Sound s) : Steady True (s.tst.storedFlag = true) s :=
  ⟨fun _ => h.bounds, h.ports, h.supervision, h.mode, h.cycle, h.lock, id⟩

/-- A steady state whose bounds may be out of date. -/
theorem Steady.outdated {c a : Prop} {s : State} (h : Steady c a s) : Steady False a s :=
  { h with bounds := False.elim }

/-- R96: a recomputation brings the bounds up to date, and leaves the rest steady. -/
theorem Steady.recompute {c a : Prop} {s : State} (h : Steady False a s) : Steady c a (State.recomputeBounds s) :=
  { h with bounds := fun _ => bounds_recompute s, mode := h.mode }

/-- Another SCU record, the bounds not yet recomputed. -/
theorem Steady.rescheduled {c a : Prop} {s : State} (h : Steady c a s) {x : Scu} (hx : ModeOk x) :
    Steady False a { s with scu := x } := { h.outdated with bounds := False.elim, mode := hx }

/-- Another supervision record. -/
theorem Steady.supervised {c a : Prop} {s : State} (h : Steady c a s) {x : Spu} (hx : SupervisionOk x) :
    Steady c a { s with spu := x } := { h with bounds := h.bounds, supervision := hx }

/-- Another lock level or commission flag. -/
theorem Steady.locked {c a : Prop} {s : State} (h : Steady c a s) {u : Mgu} (hu : LockOk u) :
    Steady c a { s with mgu := u } := { h with bounds := h.bounds, lock := hu }

theorem Steady.setPort {c a : Prop} {s : State} (h : Steady c a s) {p : Port} {r : LinkPort} (hr : PortOk r) :
    Steady c a (State.setPort s p r) := by
  cases p with
  | up => exact { h with bounds := h.bounds, ports := ⟨hr, h.ports.2⟩ }
  | down => exact { h with bounds := h.bounds, ports := ⟨h.ports.1, hr⟩ }

theorem Steady.port {c a : Prop} {s : State} (h : Steady c a s) (p : Port) : PortOk (State.port s p) := by
  cases p with
  | up => exact h.ports.1
  | down => exact h.ports.2

/-- A steady state stays steady when an act that keeps it so is repeated. -/
theorem steady_repeat {c a : Prop} {f : State → State} (hf : ∀ {s}, Steady c a s → Steady c a (f s)) (n : Nat)
    {s : State} (h : Steady c a s) : Steady c a (Nat.repeat f n s) := by
  induction n with
  | zero => exact h
  | succ n ih => exact hf ih

/-- Acts that keep a state steady do so one after another. -/
theorem steady_foldl {c a : Prop} {β : Type} {f : State → β → State}
    (hf : ∀ {s}, Steady c a s → ∀ b, Steady c a (f s b)) (l : List β) {s : State} (h : Steady c a s) :
    Steady c a (l.foldl f s) :=
  List.foldlRecOn l f h fun _ hs b _ => hf hs b

/-! #### The records of a port (06) -/

/-- R104, R111: a message enters the register of a port that is present. -/
theorem portOk_enter {r : LinkPort} (h : PortOk r) (hr : r.state ≠ .absent) (m : Produced) :
    PortOk (LinkPort.enter r m) :=
  ⟨fun e => absurd e hr, fun _ => rfl, nextTag_ne_zero _, h.2.2.2⟩

/-- R111: a message waits behind the one in the register. -/
theorem portOk_deferred {r : LinkPort} (h : PortOk r) (hr : r.register.isSome = true) (m : Produced) :
    PortOk { r with deferred := some m } := ⟨h.1, fun _ => hr, h.2.2⟩

/-- R112, R113: an absent port has no deferred message that could move into its register. -/
theorem portOk_promote {r : LinkPort} (h : PortOk r) : PortOk (LinkPort.promote r) := by
  obtain ⟨habsent, hdeferred, htag, hreplies⟩ := h
  unfold LinkPort.promote
  split
  · rename_i m hm
    refine portOk_enter (r := { r with deferred := none }) ⟨habsent, nofun, htag, hreplies⟩ (fun e => ?_) m
    have hregister := hdeferred (by rw [hm]; rfl)
    rw [(habsent e).1] at hregister
    cases hregister
  · rename_i hm
    exact ⟨fun e => ⟨rfl, (habsent e).2⟩, fun e => (nomatch (congrArg Option.isSome hm).symm.trans e), htag, hreplies⟩

/-- R110, R123: a port whose register, deferred message and replies are dropped. -/
theorem portOk_emptied {r : LinkPort} (htag : r.tagCount ≠ 0) (hregister : r.register = none)
    (hdeferred : r.deferred = none) (hreplies : r.replies = []) : PortOk r :=
  ⟨fun _ => ⟨hregister, hreplies⟩, fun e => (nomatch (congrArg Option.isSome hdeferred).symm.trans e), htag,
    by simp [hreplies]⟩

/-- R105, R111: the message on the line has left. -/
theorem portOk_lineFree {r : LinkPort} (h : PortOk r) : PortOk (LinkPort.lineFree r) := by
  unfold LinkPort.lineFree
  split
  · rename_i o ho
    split
    · exact ⟨fun e => absurd (ho.symm.trans (h.1 e).1) nofun, fun _ => rfl, h.2.2⟩
    · exact h
  · exact h

/-- R105: the transmitter of a present port takes a reply, the register's message or a BEACON. -/
theorem portOk_sendNext (s : State) {r : LinkPort} (h : PortOk r) (hr : r.state ≠ .absent) :
    PortOk (State.sendNext s r) := by
  unfold State.sendNext
  split
  · rename_i q rest hq
    have hlength := h.2.2.2
    rw [hq, List.length_cons] at hlength
    exact ⟨fun e => absurd e hr, h.2.1, h.2.2.1, by dsimp only; omega⟩
  · split
    · exact ⟨fun e => absurd e hr, fun _ => rfl, h.2.2⟩
    · split
      · exact h
      · exact h

/-! #### A commission flag that is set holds the lock level up (R161) -/

theorem atLeastLimits_ne_open (l : Lock) : Lock.atLeastLimits l ≠ .open := by cases l <;> decide

theorem raise_ne_open (l : Lock) : Lock.raise l ≠ .open := by cases l <;> decide

theorem eq_of_lower_eq_open {l : Lock} : Lock.lower l = .open → l = .open ∨ l = .limits := by cases l <;> decide

/-- R160, R161: a LOCK_LOWER that no lock forbids does not bring the level of a commissioned part down to OPEN. -/
theorem lockOk_lower {u : Mgu} (h : LockOk u) (hl : Mgu.forbidsCommand u .lockLower = false) :
    LockOk { u with lock := Lock.lower u.lock } := by
  intro hc hlow
  have hc : u.commission = true := hc
  rcases eq_of_lower_eq_open hlow with hopen | hlimits
  · exact h hc hopen
  · simp [Mgu.forbidsCommand, hlimits, hc] at hl

/-- R151: a command that is carried out is one that no lock forbids. -/
theorem forbidsCommand_of_accepted {s : State} {f : Frame} (h : State.refusalOf s f = none)
    (ho : opOf f.id = some .command) {c : Command} (hc : commandIn f.valueB = some c) :
    Mgu.forbidsCommand s.mgu c = false := by
  cases hf : Mgu.forbidsCommand s.mgu c with
  | false => rfl
  | true =>
    simp only [State.refusalOf, ho, opFails, hc, State.laterTests, firstStatus, State.lockedFails, hf,
      Option.isNone_some, Bool.false_eq_true, if_false, if_true] at h
    split at h <;> cases h

/-! #### The limits latched (R93) -/

/-- R93: latching changes the limits record and its source alone. -/
theorem latch_eq (x : Scu) (t : WordStore) : ∃ l o, Scu.latch x t = { x with limits := l, source := o } := by
  unfold Scu.latch
  split
  · exact ⟨_, _, rfl⟩
  · exact ⟨_, _, rfl⟩
  · exact ⟨x.limits, x.source, rfl⟩

theorem modeOk_latch {x : Scu} (hx : ModeOk x) (t : WordStore) : ModeOk (Scu.latch x t) := by
  obtain ⟨l, o, e⟩ := latch_eq x t
  rw [e]
  exact hx

theorem mode_latch (x : Scu) (t : WordStore) : (Scu.latch x t).mode = x.mode := by
  obtain ⟨l, o, e⟩ := latch_eq x t
  rw [e]

/-! #### What an arrival leaves of the ports -/

@[simp] theorem port_recomputeBounds (s : State) (p : Port) :
    State.port (State.recomputeBounds s) p = State.port s p := by cases p <;> rfl

/-- R118 to R120: an arrival entry leaves the ports as they stand. -/
@[simp] theorem port_placeArrival (s : State) (e : Arrival) (p : Port) :
    State.port (State.placeArrival s e) p = State.port s p := by
  unfold State.placeArrival
  (repeat' split) <;> cases p <;> rfl

/-- R101: a curtailment leaves the CLU as it stands. -/
@[simp] theorem setCurtail_clu (s : State) (ceiling duration : Nat) :
    (State.setCurtail s ceiling duration).clu = s.clu := by
  unfold State.setCurtail
  split <;> rfl

@[simp] theorem port_setCurtail (s : State) (ceiling duration : Nat) (p : Port) :
    State.port (State.setCurtail s ceiling duration) p = State.port s p := by
  cases p <;> simp [State.port]

section

variable {c a : Prop} {s : State} (h : Steady c a s)

include h

/-! #### The schedule (05) -/

/-- R98: the entry test. -/
theorem steady_floodTest : Steady c a (State.floodTest s) := by
  unfold State.floodTest
  split
  · exact h
  · split
    · exact { h with bounds := h.bounds, mode := ⟨fun _ => rfl, Nat.zero_le _, h.mode.2.2⟩ }
    · exact Steady.recompute
        ((h.rescheduled (x := { s.scu with mode := .flood, exitDwell := 0 })
          ⟨fun _ => rfl, Nat.zero_le _, h.mode.2.2⟩).congr rfl)

/-- R99: the exit test. -/
theorem steady_floodExit : Steady False a (State.floodExit s) := by
  obtain ⟨hnormal, hdwell, hcurtail⟩ := h.mode
  unfold State.floodExit
  split
  · exact h.outdated
  · rename_i hflood
    have flood_stays : ∀ n, n ≤ 255 → ModeOk { s.scu with exitDwell := n } :=
      fun n hn => ⟨fun e => absurd (hflood.symm.trans e) nofun, hn, hcurtail⟩
    split
    · dsimp only
      split
      · exact (h.rescheduled (x := { s.scu with mode := .normal, exitDwell := 0 })
          ⟨fun _ => rfl, Nat.zero_le _, hcurtail⟩).congr rfl
      · exact h.rescheduled (flood_stays _ (Nat.min_le_left _ _))
    · exact h.rescheduled (flood_stays 0 (Nat.zero_le _))

/-- R101: a curtailment received. -/
theorem steady_setCurtail (ceiling duration : Nat) : Steady c a (State.setCurtail s ceiling duration) := by
  unfold State.setCurtail
  refine Steady.recompute ?_
  split
  · exact h.rescheduled ⟨h.mode.1, h.mode.2.1, Nat.zero_le _⟩
  · exact h.rescheduled ⟨h.mode.1, h.mode.2.1, Nat.min_le_left _ _⟩

/-- R86: the SCU's steps at a boundary. -/
theorem steady_takeBoundary : Steady c a (State.takeBoundary s) := by
  unfold State.takeBoundary State.boundary
  split
  · obtain ⟨hnormal, hdwell, hcurtail⟩ := h.mode
    dsimp only
    refine Steady.congr (Steady.recompute (steady_floodExit (Steady.congr (h.rescheduled (modeOk_latch
      (x := { Scu.nextInterval s.scu s.table with
        curtailLeft := (Scu.nextInterval s.scu s.table).curtailLeft - 1,
        cursor := (stepCursor s.table (Scu.nextInterval s.scu s.table).cursor).1 })
      ⟨hnormal, hdwell, (Nat.sub_le _ _).trans hcurtail⟩ s.table)) ?_))) rfl
    cases (stepCursor s.table (Scu.nextInterval s.scu s.table).cursor).2 <;> rfl
  · exact h

/-- R92: SCHEDULE_START. -/
theorem steady_startSchedule (n : Nat) : Steady c a (State.startSchedule s n) :=
  Steady.congr (Steady.recompute (h.rescheduled (modeOk_latch
    (x := { s.scu with cursor := .block n (blockDuration s.table n) }) h.mode s.table))) rfl

/-! #### The links (06) -/

theorem steady_produce (p : Port) (m : Produced) : Steady c a (State.produce s p m) := by
  unfold State.produce
  dsimp only
  split
  · rename_i hup _
    exact h.setPort (portOk_enter (h.port p) (by simp [hup]) m)
  · rename_i hr _
    exact h.setPort (portOk_deferred (h.port p) (by simp [hr]) m)
  · rename_i hr _
    exact (h.setPort (portOk_deferred (h.port p) (by simp [hr]) m)).congr rfl
  · exact h.congr rfl

/-- R87, R115: the base changes with the re-rating, and the bounds with the base. -/
theorem steady_takeReRating : Steady c a (State.takeReRating s) := by
  unfold State.takeReRating State.produceRelease
  split
  · exact h
  · rename_i n rest _
    have hr : Steady c a (State.recomputeBounds
        (State.reRate { s with handed := { s.handed with reRatings := rest } })) :=
      Steady.recompute { h.outdated with bounds := False.elim }
    split
    · exact hr
    · exact steady_produce hr _ _

theorem steady_takeMaturity : Steady c a (State.takeMaturity s) := by
  unfold State.takeMaturity State.mature
  split
  · exact h
  · dsimp only
    split
    · exact h.congr rfl
    · exact Steady.recompute { h.outdated with bounds := False.elim, ports := h.ports }

theorem steady_takeCurtail : Steady c a (State.takeCurtail s) := by
  unfold State.takeCurtail State.produceCurtail
  split
  · exact h
  · refine steady_produce ?_ _ _
    exact h.congr rfl

theorem steady_transmit (p : Port) : Steady c a (State.transmit s p) := by
  have hr := portOk_lineFree (h.port p)
  unfold State.transmit
  dsimp only
  split
  · exact h.setPort hr
  · exact h.setPort (portOk_sendNext s hr ‹_›)

/-- R119, R120: an early maturing changes the expected inflow, and the bounds with it. -/
theorem steady_placeArrival (e : Arrival) : Steady c a (State.placeArrival s e) := by
  unfold State.placeArrival
  split
  · exact { h with bounds := h.bounds, ports := h.ports }
  · split
    · exact { h with bounds := h.bounds, ports := h.ports }
    · split
      · exact { h with bounds := h.bounds, ports := h.ports }
      · exact Steady.recompute { h.outdated with bounds := False.elim, ports := h.ports }

/-- R116: a TAKEN reply placed on a present port. -/
theorem steady_placeReply {p : Port} (hp : (State.port s p).state ≠ .absent) (m : LinkMsg) :
    Steady c a (State.placeReply s p m) := by
  obtain ⟨-, hdeferred, htag, -⟩ := h.port p
  unfold State.placeReply
  dsimp only
  split
  · refine h.setPort ⟨fun e => absurd e hp, hdeferred, htag, ?_⟩
    rw [List.length_append]
    exact Nat.succ_le_of_lt ‹_›
  · exact h

theorem steady_takeTaken (p : Port) (m : LinkMsg) : Steady c a (State.takeTaken s p m) := by
  unfold State.takeTaken
  dsimp only
  split
  · exact h.setPort (portOk_promote (h.port p))
  · exact h

/-- R109: a valid message on a present port disposed of. -/
theorem steady_disposeMsg {p : Port} (hp : (State.port s p).state ≠ .absent) (m : LinkMsg) :
    Steady c a (State.disposeMsg s p m) := by
  unfold State.disposeMsg
  split
  · exact h
  · split
    · exact steady_takeTaken h p m
    · split
      · refine steady_placeReply (steady_placeArrival h _) ?_ m
        rwa [port_placeArrival]
      · split
        · refine steady_placeReply (steady_setCurtail h _ _) ?_ m
          rwa [port_setCurtail]
        · exact h.congr rfl

/-- R108, R109: a valid message brings its port UP. -/
theorem steady_validMsg (p : Port) : Steady c a (State.validMsg s p) := by
  obtain ⟨-, hkept⟩ := h.port p
  have hs : Steady c a (State.setPort s p { State.port s p with miswired := false, silence := 0, state := .up }) :=
    h.setPort ⟨nofun, hkept⟩
  unfold State.validMsg
  dsimp only
  split
  · exact hs.congr rfl
  · exact hs

theorem steady_miswiredMsg (p : Port) : Steady c a (State.miswiredMsg s p) := by
  have hs : Steady c a (State.count s .linkRejects) := h.congr rfl
  unfold State.miswiredMsg
  dsimp only
  split
  · exact hs
  · exact (hs.setPort (p := p) (r := { State.port s p with miswired := true }) (h.port p)).congr rfl

omit h in
theorem port_validMsg_state (s : State) (p : Port) : (State.port (State.validMsg s p) p).state = .up := by
  unfold State.validMsg
  dsimp only
  split <;> simp

/-- R107 to R109: twelve bytes gathered on a port. -/
theorem steady_linkArrival (p : Port) (m : LinkMsg) : Steady c a (State.linkArrival s p m) := by
  unfold State.linkArrival
  split
  · exact h
  · split
    · exact h.congr rfl
    · split
      · exact steady_miswiredMsg h p
      · exact steady_disposeMsg (steady_validMsg h p) (by simp [port_validMsg_state]) m

theorem steady_byteTimeout (p : Port) (n : Nat) : Steady c a (State.byteTimeout s p n) := by
  unfold State.byteTimeout
  split
  · exact h
  · exact h.congr (steadyView_countIf s _ _)

/-- R123: a LINK install on one port. -/
theorem steady_fitPort (p : Port) : Steady c a (State.fitPort s p) := by
  have htag := (h.port p).2.2.1
  have removed : Steady c a (State.setPort s p (LinkPort.removed (State.port s p))) :=
    h.setPort (portOk_emptied htag rfl rfl rfl)
  unfold State.fitPort
  dsimp only
  split
  · exact h.setPort (portOk_emptied htag rfl rfl rfl)
  · exact h
  · exact h
  · exact removed.congr (steadyView_dropCounts _ _)
  · exact removed.congr (steadyView_dropCounts _ _)

theorem steady_installLink : Steady c a (State.installLink s) := steady_fitPort (steady_fitPort h .up) .down

/-! #### Supervision and the panel inputs (08) -/

theorem steady_windowTest : Steady c a (State.windowTest s) := by
  obtain ⟨hrun, hwindow⟩ := h.supervision
  unfold State.windowTest
  split
  · dsimp only
    split
    · split
      · exact (h.supervised (x := { s.spu with sup := .lost, run := false }) ⟨nofun, hwindow⟩).congr rfl
      · split
        · exact (h.supervised (x := { s.spu with run := false, lastSeq := none }) ⟨nofun, hwindow⟩).congr rfl
        · exact h.congr rfl
    · exact h.congr rfl
  · exact h

/-- R143, R144: while supervision is PRESENT no run is under way. -/
theorem steady_takeHeartbeat (q : BitVec 4) : Steady c a (State.takeHeartbeat s q) := by
  have hw := steady_windowTest h
  obtain ⟨hrun, hwindow⟩ := hw.supervision
  unfold State.takeHeartbeat
  dsimp only
  split
  · rename_i hpresent
    have present : ∀ n, n ≤ 65535 →
        SupervisionOk { (State.windowTest s).spu with lastSeq := some q, window := n } :=
      fun n hn => ⟨fun e => absurd hpresent (hrun e).1, hn⟩
    split
    · exact hw.supervised (present 0 (Nat.zero_le _))
    · exact (hw.supervised (present _ hwindow)).congr rfl
  · rename_i hpresent
    have away : SupervisionOk { (State.windowTest s).spu with lastSeq := some q, window := 0 } :=
      ⟨fun _ => ⟨hpresent, rfl⟩, Nat.zero_le _⟩
    split
    · split
      · exact (hw.supervised (x := { (State.windowTest s).spu with
          sup := .present, run := false, lastSeq := some q, window := 0 }) ⟨nofun, Nat.zero_le _⟩).congr rfl
      · exact (hw.supervised away).congr rfl
    · exact hw.supervised ⟨fun _ => ⟨hpresent, rfl⟩, Nat.zero_le _⟩

/-- 08 Table 8-2: a changed level handed to its readers. -/
theorem steady_handInput (i : PanelInput) (level : Bool) : Steady c a (State.handInput s i level) := by
  cases i with
  | floodAlarm =>
    cases level with
    | true => exact steady_floodTest h
    | false => exact h
  | maintEnable => exact h
  | trip u => cases level <;> exact h.congr rfl

theorem steady_takeInput (i : PanelInput) : Steady c a (State.takeInput s i) := by
  have hs := h.congr (steadyView_setPanel s i
    { State.panel s i with level := (State.panel s i).pin, count := 0 })
  unfold State.takeInput
  dsimp only
  split
  · exact hs
  · exact steady_handInput hs i _

theorem steady_firstReading : Steady c a (State.firstReading s) := by
  have handed_on : ∀ {u : State}, Steady c a u → ∀ i, Steady c a (State.handIfActive u i) := by
    intro u hu i
    unfold State.handIfActive
    split
    · exact steady_handInput hu i true
    · exact hu
  have read : ∀ {u : State}, Steady c a u → ∀ i, Steady c a (State.readInput u i) := fun hu _ => hu.congr rfl
  exact steady_foldl handed_on allInputs (steady_foldl read allInputs h)

/-! #### The local tick -/

/-- Log 8: the acts that a marker left owing. -/
theorem steady_settle : Steady c a (State.settle s) := by
  rw [settle_eq]
  have hcounts : Steady c a (State.settleCounts (State.takeBoundary s)) :=
    (steady_windowTest (steady_repeat steady_takeMaturity _
      (steady_repeat steady_takeReRating _ (steady_takeBoundary h)))).congr (steadyView_evaluate _)
  have hentries : Steady c a (State.settleEntries (State.settleCounts (State.takeBoundary s))) :=
    steady_repeat steady_takeCurtail _
      (steady_repeat (fun hu => hu.congr (steadyView_takeActions _)) _ hcounts)
  exact hentries.congr (steadyView_takeAges _)

/-- A count raised is outside what is kept, or a count of one port's record. -/
theorem steady_raise (x : TickPart) : Steady c a (State.raise s x) := by
  cases x with
  | gap => simp only [State.raise]; split <;> exact h.congr rfl
  | silence p | beacon p =>
    simp only [State.raise]
    split
    · exact h
    · exact h.setPort (h.port p)
  | taken p =>
    simp only [State.raise]
    split
    · exact h.setPort (h.port p)
    · exact h
  | sample i =>
    simp only [State.raise, State.sampleInput]
    split
    · exact h
    · exact h.congr rfl

theorem steady_expire (x : TickPart) : Steady c a (State.expire s x) := by
  cases x with
  | gap =>
    exact { h with bounds := h.bounds, cycle := ⟨nofun, nofun⟩ }
  | silence p =>
    exact (h.setPort (p := p) (portOk_emptied (r := LinkPort.cleared { State.port s p with state := .down })
      (h.port p).2.2.1 rfl rfl rfl)).congr (steadyView_dropCounts _ _)
  | taken p => exact (h.setPort (portOk_promote (h.port p))).congr rfl
  | beacon p => exact h.setPort (h.port p)
  | sample i => exact steady_takeInput h i

theorem steady_tickPart (x : TickPart) : Steady c a (State.tickPart s x) := by
  unfold State.tickPart
  dsimp only
  split
  · exact steady_expire (steady_raise h x) x
  · exact steady_raise h x

theorem steady_tickOnce (x : TickPart) : Steady c a (State.tickOnce s x) := by
  unfold State.tickOnce
  split
  · exact h
  · exact steady_tickPart h x

theorem steady_takeAhead (x : TickPart) : Steady c a (State.takeAhead s x) := by
  rcases takeAhead_cases s x with ⟨-, e⟩ | ⟨-, e⟩ <;> rw [e]
  · exact h
  · exact (steady_tickPart h x).congr rfl

theorem steady_tickAhead (x : TickPart) : Steady c a (State.tickAhead s x) := by
  unfold State.tickAhead
  split
  · exact steady_takeAhead h x
  · exact h

theorem steady_driveInput (i : PanelInput) (level sampled : Bool) :
    Steady c a (State.driveInput s i level sampled) := by
  have hs := h.congr (steadyView_setPanel s i { State.panel s i with pin := level })
  unfold State.driveInput
  dsimp only
  split
  · exact steady_takeAhead hs _
  · exact hs

theorem steady_endTick : Steady c a (State.endTick s) := h.congr rfl

theorem steady_tick : Steady c a (State.tick s) :=
  steady_endTick (steady_foldl steady_tickOnce sampleParts (steady_foldl steady_transmit bothPorts
    (steady_foldl steady_tickOnce tickParts (steady_settle h))))

end

end Sys2Proof.Machine

namespace Sys2Proof.Machine

open Safety

/-! ### The Table Store and reset (09) -/

/-- R104: a port's record as a reset leaves it. -/
theorem portOk_absent : PortOk {} := portOk_emptied (by decide) rfl rfl rfl

/-- R104: a port's record at the end of the start-up load. -/
theorem portOk_startPort (t : WordStore) (p : Port) : PortOk (startPort t p) :=
  portOk_emptied (show (1 : Byte) ≠ 0 by decide) rfl rfl rfl

/-- R19, R149: after a reset every block is at its power-on values, and the stored commission flag stands. -/
theorem steady_powerOn {c a : Prop} {s : State} (h : Steady c a s) (asserted : Bool) :
    Steady c a (State.powerOn s asserted) where
  bounds _ := (boundsOk_iff _).mpr rfl
  ports := ⟨portOk_absent, portOk_absent⟩
  supervision := ⟨nofun, Nat.zero_le _⟩
  mode := ⟨fun _ => rfl, Nat.zero_le _, Nat.zero_le _⟩
  cycle := ⟨nofun, nofun⟩
  lock := nofun
  stored := h.stored

/-- R94, R95: in NORMAL the expected inflow is no term of the lower bound. -/
theorem lowerBound_normal {x : Scu} (h : x.mode = .normal) (base : Nat) (i j : Option Inflow) :
    lowerBound x base i = lowerBound x base j := by
  simp only [lowerBound, h]

/-- R96, R104, R122: the SCU and the CLU start in NORMAL with the expected inflow unknown, so the bounds, computed before
the CLU has started, stand. -/
theorem bounds_started (s : State) : BoundsOk (State.startClu (State.startScu s)) := by
  rw [boundsOk_iff]
  simp only [State.startClu, State.startScu, State.recomputeBounds, Scu.withBounds]
  rw [lowerBound_normal (mode_latch _ _) s.adu.base s.clu.inflow none]
  congr 2

/-- R166: the image loaded, with an IMAGE notice when its checksum is bad, and the RPU in SYNC. -/
def State.imageLoaded (s : State) : State :=
  let u := if !s.tst.image.good then State.notify (State.loadImage s) .image else State.loadImage s
  { u with rpu := { u.rpu with state := .sync, gap := 0 } }

/-- R166: the start-up load: the image, every block's start-up values, and the first reading of the panel inputs. -/
theorem completeLoad_eq {s : State} (h : s.rpu.state = .load ∧ s.tst.resetAsserted = false) :
    State.completeLoad s = State.firstReading (State.startEngine
      (State.startClu (State.startScu (State.startAdu (State.imageLoaded s))))) := by
  rw [State.completeLoad, if_pos h]
  rfl

section

variable {c a : Prop} {s : State} (h : Steady c a s)

include h

/-- R103: a STATION install brings the bounds up to date, whatever it found. -/
theorem Steady.stationInstalled {c' : Prop} : Steady c' a (State.installStation s) :=
  Steady.recompute (steady_floodTest h.outdated)

theorem steady_installGates : Steady c a (State.installGates s) :=
  h.congr (foldl_keeps State.steadyView steadyView_installGate allGates s)

theorem steady_handInstall (n : Nat) : Steady c a (State.handInstall s n) := by
  unfold State.handInstall
  split
  · exact h.congr (steadyView_installGate s _)
  · split
    · exact h.stationInstalled
    · split
      · exact h.congr (steadyView_enter s _ _)
      · split
        · exact steady_installLink h
        · exact h

/-- R158: an install of STATION changes `flood_ramp_up` and has the bounds recomputed; no other install changes it. -/
theorem steady_install (n : Nat) (words : WordStore) : Steady c a (State.install s n words) := by
  by_cases hn : n = stationGroup
  · subst hn
    have hw : Steady False a { State.windowTest s with tst := { (State.windowTest s).tst with
        table := installGroup stationGroup words (State.windowTest s).table } } :=
      { (steady_windowTest h).outdated with bounds := False.elim }
    exact hw.stationInstalled
  · unfold State.install
    rw [if_neg hn]
    refine steady_handInstall (h.congr ?_) n
    simp only [State.steadyView, floodRampUp_installGroup hn]

theorem steady_takeReload (x : InstallTaker) : Steady c a (State.takeReload s x) := by
  cases x with
  | adu => exact steady_installGates h
  | scu => exact h.stationInstalled
  | sqe => exact h.congr (steadyView_enter s _ _)
  | clu => exact steady_installLink h
  | mgu => exact h.congr rfl

omit h in
/-- R165: the SCU takes the install of every RELOAD. -/
theorem scu_mem_takeOrder (order : List InstallTaker) : InstallTaker.scu ∈ takeOrder order := by
  have kept : ∀ (l acc : List InstallTaker), InstallTaker.scu ∈ acc ∨ InstallTaker.scu ∈ l →
      InstallTaker.scu ∈ l.foldl (fun l x => if l.contains x then l else l ++ [x]) acc := by
    intro l
    induction l with
    | nil => simp
    | cons x rest ih =>
      intro acc hacc
      refine ih _ ?_
      dsimp only
      rcases hacc with hmem | hmem
      · refine .inl ?_
        split
        · exact hmem
        · exact List.mem_append_left _ hmem
      · rcases List.mem_cons.mp hmem with rfl | hmem
        · refine .inl ?_
          split
          · rename_i hx
            simpa using hx
          · exact List.mem_append_right _ (List.mem_singleton_self _)
        · exact .inr hmem
  exact kept _ [] (by simp)

/-- R165: a RELOAD's installs bring the bounds up to date when the SCU takes its own. -/
theorem Steady.reloaded {c' : Prop} {l : List InstallTaker} (hl : InstallTaker.scu ∈ l) :
    Steady c' a (l.foldl State.takeReload s) := by
  obtain ⟨before, after, rfl⟩ := List.append_of_mem hl
  rw [List.foldl_append, List.foldl_cons]
  exact steady_foldl steady_takeReload after (steady_foldl steady_takeReload before h).stationInstalled

theorem steady_completeReload (order : List InstallTaker) : Steady c a (State.completeReload s order) := by
  unfold State.completeReload
  split
  · split
    · have hw : Steady False a { State.windowTest s with tst := { (State.windowTest s).tst with
          table := installAll (State.windowTest s).tst.image.words (State.windowTest s).table } } :=
        { (steady_windowTest h).outdated with bounds := False.elim }
      exact hw.reloaded (scu_mem_takeOrder order)
    · exact h.congr rfl
  · exact h

theorem steady_completeStore (ok : Bool) : Steady c a (State.completeStore s ok) := by
  unfold State.completeStore
  split
  · split <;> exact h.congr rfl
  · exact h

theorem steady_completeCommission (ok : Bool) : Steady c a (State.completeCommission s ok) := by
  unfold State.completeCommission
  split
  · dsimp only
    split
    · split <;> exact h.congr rfl
    · exact h.congr rfl
  · exact h

/-- R161, R166: a load that sets the commission flag holds the lock level at LIMITS or above. -/
theorem steady_loadImage : Steady False a (State.loadImage s) :=
  { h.outdated with
    bounds := False.elim
    lock := by
      intro hc
      have hc : (s.tst.storedFlag || s.tst.image.commission) = true := hc
      simp only [State.loadImage, hc, if_true]
      exact atLeastLimits_ne_open _ }

/-- R96, R104, R122: the blocks at their start-up values. -/
theorem Steady.started {c' : Prop} : Steady c' a (State.startClu (State.startScu (State.startAdu s))) where
  bounds _ := bounds_started _
  ports := ⟨portOk_startPort _ _, portOk_startPort _ _⟩
  supervision := h.supervision
  mode := modeOk_latch ⟨fun _ => rfl, Nat.zero_le _, Nat.zero_le _⟩ _
  cycle := h.cycle
  lock := h.lock
  stored := h.stored

/-- R166: the image loaded in LOAD, where no cycle is open. -/
theorem steady_imageLoaded (hload : s.rpu.state = .load) : Steady False a (State.imageLoaded s) := by
  have hclosed : s.rpu.active.isSome ≠ true := fun hopen => by
    have hrun := h.cycle.mp hopen
    rw [hload] at hrun
    cases hrun
  have synced : ∀ u : State, u.steadyView = (State.loadImage s).steadyView →
      Steady False a { u with rpu := { u.rpu with state := .sync, gap := 0 } } := fun u hu =>
    { (steady_loadImage h).congr hu with
      bounds := False.elim
      cycle := ⟨fun hopen => absurd ((congrArg (fun v => v.active.isSome) hu).symm.trans hopen) hclosed, nofun⟩ }
  refine synced _ ?_
  split <;> rfl

theorem steady_completeLoad : Steady c a (State.completeLoad s) := by
  by_cases hload : s.rpu.state = .load ∧ s.tst.resetAsserted = false
  · rw [completeLoad_eq hload]
    exact steady_firstReading ((steady_imageLoaded h hload.1).started.congr rfl)
  · rw [State.completeLoad, if_neg hload]
    exact h

/-! ### Management requests (09) -/

theorem steady_startCommission : Steady c a (State.startCommission s) := by
  unfold State.startCommission
  split
  · exact h
  · exact { h with bounds := h.bounds, lock := fun _ => atLeastLimits_ne_open _, stored := fun _ => rfl }

/-- R154: a command that no lock forbids, handed to its owner. -/
theorem steady_command {x : Command} (hx : Mgu.forbidsCommand s.mgu x = false) (arg : Nat) :
    Steady c a (State.command s x arg) := by
  cases x with
  | engineHold | engineRun | engineStep => exact (h.congr (steadyView_evaluate s)).congr rfl
  | engineRestart => exact (h.congr (steadyView_evaluate s)).congr (steadyView_enter _ _ _)
  | store | reload => exact h.congr rfl
  | lockRaise => exact h.locked (u := { s.mgu with lock := Lock.raise s.mgu.lock }) fun _ => raise_ne_open _
  | lockLower => exact h.locked (lockOk_lower h.lock hx)
  | commissionLock => exact steady_startCommission h
  | gateOut =>
    simp only [State.command]
    split
    · exact h.congr (steadyView_gateOut s _)
    · exact h
  | gateIn =>
    simp only [State.command]
    split
    · exact h.congr (steadyView_gateIn s _)
    · exact h
  | scheduleStart => exact steady_startSchedule h arg
  | floodDeclare =>
    have hd : Steady c a { s with scu := { s.scu with declared := true } } :=
      { h with bounds := h.bounds, mode := h.mode }
    exact steady_floodTest hd
  | floodCancel => exact { h with bounds := h.bounds, mode := h.mode }
  | curtailRequest => exact steady_produce h _ _

theorem steady_checkInstall : Steady c a (State.checkInstall s) := by
  unfold State.checkInstall
  split
  · exact (steady_install h _ _).congr rfl
  · exact h

/-- R150 to R156: a request that has passed every test. -/
theorem steady_perform {op : Op} {f : Frame} (hr : State.refusalOf s f = none) (ho : opOf f.id = some op) :
    Steady c a (State.perform s op f).1 := by
  cases op with
  | read => exact h
  | readNext | setPointer => exact h.congr (steadyView_setPointer s _ _)
  | write => exact h.congr (steadyView_writeWord s _ _)
  | writeNext => exact (h.congr (steadyView_writeWord s _ _)).congr (steadyView_setPointer _ _ _)
  | openEdit | abandon | capture => exact h.congr rfl
  | check => exact steady_checkInstall h
  | command =>
    simp only [State.perform]
    split
    · exact steady_command h (forbidsCommand_of_accepted hr ho ‹_›) _
    · exact h

theorem steady_manage (f : Frame) : Steady c a (State.manage s f).1 := by
  unfold State.manage
  split
  · exact h
  · exact steady_perform h ‹_› ‹_›
  · exact h

/-! ### The ring (01) -/

/-- R9: of the frames a TELEMETRY slot takes, a STAGE frame of the headwater gauge is an entry test. -/
theorem steady_tap (binding : Nat) (f : Frame) : Steady c a (State.tap s binding f) := by
  have stage : ∀ (g : GaugeIx) (level : Word) (bad : Bool), Steady c a (State.takeStage s g level bad) := by
    intro g level bad
    unfold State.takeStage
    dsimp only
    split
    · exact h.congr rfl
    · split
      · exact steady_floodTest (h.congr (steadyView_setGauge s g { State.gauge s g.val with
          level := some level.toNat, age := 0 }))
      · exact h.congr rfl
  unfold State.tap
  split
  · exact h
  · split
    · split
      · split
        · exact h.congr (steadyView_takePosition s _ _ _)
        · exact h
      · exact h
    · split
      · split
        · split
          · exact stage _ _ _
          · exact h
        · exact h
      · exact h

theorem steady_slotFrame (x : SlotTable) (p : Nat) (f : Frame) : Steady c a (State.slotFrame s x p f) := by
  have passed : ∀ {u : State}, Steady c a u → Steady c a (State.passFrame u f) :=
    fun hu => hu.congr (steadyView_passFrame _ f)
  unfold State.slotFrame
  split
  · split
    · exact h.congr (by simp [State.commandSlot])
    · exact h.congr (by simp)
  · exact passed (steady_tap h _ f)
  · unfold State.managementSlot
    split
    · exact h.congr rfl
    · split
      · exact (steady_manage h f).congr rfl
      · exact passed h
  · unfold State.noticeSlot
    split
    · split
      · exact h.congr rfl
      · exact passed h
    · exact passed h
  · unfold State.heartbeatSlot
    refine passed ?_
    split
    · exact steady_takeHeartbeat h _
    · exact h
  · exact passed h

theorem steady_runFrame (x : SlotTable) (f : Frame) : Steady c a (State.runFrame s x f) := by
  have hp : Steady c a { s with rpu := { s.rpu with slotPos := s.rpu.slotPos + 1 } } := h.congr rfl
  unfold State.runFrame
  dsimp only
  split
  · exact steady_slotFrame hp x _ f
  · exact (hp.congr (steadyView_count _ .excessFrames)).congr (steadyView_passFrame _ f)

/-- R2, R34, R85, R128, R145: the marker event leaves the bounds' inputs as they stand. -/
theorem steady_markerEvent (late : Bool) : Steady c a (State.markerEvent s late) := by
  obtain ⟨hrun, -⟩ := h.supervision
  have marked : ∀ u : State, u.steadyView = s.steadyView →
      Steady c a (State.markDwell (State.markWindow (State.markInterval u))) := fun u hu =>
    { h.congr hu with
      bounds := (h.congr hu).bounds
      mode := (h.congr hu).mode
      supervision := ⟨(h.congr hu).supervision.1, Nat.min_le_left _ _⟩ }
  exact marked _ (by cases late <;> rfl)

/-- R2, R4: the cycle that a marker opens is open in RUN. -/
theorem steady_openCycle (cycle : BitVec 32) : Steady c a (State.openCycle s cycle) :=
  { h with bounds := h.bounds, cycle := ⟨fun _ => rfl, fun _ => rfl⟩ }

theorem steady_emit (f : Frame) : Steady c a (State.emit s f) := h.congr rfl

theorem steady_takeMarker (f : Frame) (late : Bool) : Steady c a (State.takeMarker s f late) := by
  have hs : Steady c a (State.endLoss (State.closeCycle (State.settle s))) :=
    (steady_settle h).congr (by simp)
  exact steady_emit (steady_markerEvent (steady_openCycle hs _) late) f

/-- R1: any frame taken at ring-in. -/
theorem steady_ringArrival (f : Frame) (late : Bool) : Steady c a (State.ringArrival s f late) := by
  unfold State.ringArrival
  split
  · exact h.congr rfl
  · split
    · exact steady_takeMarker h f late
    · dsimp only
      have hc : Steady c a (State.countIf (State.takeAges s) (!Frame.good f) .badCheck) := h.congr (by simp)
      split
      · exact steady_runFrame hc _ f
      · exact hc.congr (steadyView_passFrame _ f)

end

/-! ### Every command -/

open Laws in
/-- Every command keeps a steady state steady. -/
theorem steady_exec {c a : Prop} {x : Instr} {s t : State} (h : Steady c a s) (hx : exec x s = .next t) :
    Steady c a t := by
  cases hf : Families.ringFrame x with
  | some f =>
    obtain ⟨late, e⟩ := exec_ringFrame hf s
    cases e.symm.trans hx
    exact steady_ringArrival h f late
  | none =>
    cases x with
    | powerOn => cases hx; exact steady_powerOn h false
    | resetNAssert short =>
      cases hx
      unfold State.assertReset
      split
      · exact steady_powerOn h _
      · exact h.congr rfl
    | resetNRelease => cases hx; exact h.congr rfl
    | startUpLoadComplete => cases hx; exact steady_completeLoad h
    | ringLoss | beaconDue p | silenceExpiry p | takenTimeout p => cases hx; exact steady_tickAhead h _
    | intervalBoundary => cases hx; exact steady_takeBoundary h
    | reRating => cases hx; exact steady_takeReRating h
    | arrivalMaturity => cases hx; exact steady_takeMaturity h
    | supervisionWindowExpiry => cases hx; exact steady_windowTest h
    | engineEvaluation => cases hx; exact h.congr (steadyView_evaluate s)
    | actionListApply => cases hx; exact h.congr (steadyView_takeActions s)
    | curtailUp => cases hx; exact steady_takeCurtail h
    | storeComplete ok => cases hx; exact steady_completeStore h ok
    | reloadComplete order => cases hx; exact steady_completeReload h order
    | commissionLockComplete ok => cases hx; exact steady_completeCommission h ok
    | panelInputChange i level sampled => cases hx; exact steady_driveInput h i level sampled
    | linkTransmit p => cases hx; exact steady_transmit h p
    | linkByteTimeout p n => cases hx; exact steady_byteTimeout h p n
    | beacon p m | taken p m | release m | curtail m | wrongDirectionMessage p k m | badCheckMessage p m
    | miswiredMessage p m => cases hx; exact steady_linkArrival h _ _
    | _ => cases hf

/-- Every step keeps a steady state steady: the local tick, and each command. -/
theorem steady_step {c a : Prop} {s t : State} (h : Steady c a s) (hstep : step s = .next t) : Steady c a t := by
  unfold step at hstep
  split at hstep
  · rw [← Host.Outcome.next.inj hstep]
    exact steady_tick h
  · rename_i x rest _
    have hs : Steady c a { s with pending := rest } := h.congr rfl
    exact steady_exec hs hstep

end Sys2Proof.Machine

namespace Sys2Proof.Intervals

open Machine Safety

/-- Settles O8: a sound state is steady, and every step keeps it so; each act that changes an input of the bounds ends
with their recomputation. -/
theorem stepKeepsBoundsCurrent : Obligations.StepKeepsBoundsCurrent := by
  unfold Obligations.StepKeepsBoundsCurrent
  intro s t hsound hstep
  exact (steady_step (Steady.of_sound hsound) hstep).bounds trivial

/-- Settles O12: the other parts of a steady state, and the stored commission flag. -/
theorem stepKeepsPortsModesAndLock : Obligations.StepKeepsPortsModesAndLock := by
  unfold Obligations.StepKeepsPortsModesAndLock
  intro s t hsound hstep
  obtain ⟨-, hports, hsupervision, hmode, hcycle, hlock, hstored⟩ := steady_step (Steady.of_sound hsound) hstep
  exact ⟨hports, hsupervision, hmode, hcycle, hlock, hstored⟩

end Sys2Proof.Intervals

namespace Sys2Proof.Machine

open Safety

/-! ### What a recomputation of the bounds leaves alone (R96) -/

/-- R96: the fields of the SCU's record that a recomputation of the bounds does not change. -/
theorem boundsAlone_fields {c d : Scu} (h : BoundsAlone c d) :
    d.intervalNumber = c.intervalNumber ∧ d.cycleCount = c.cycleCount ∧ d.intervalLength = c.intervalLength ∧
    d.cursor = c.cursor ∧ d.limits = c.limits ∧ d.source = c.source ∧ d.mode = c.mode ∧ d.declared = c.declared ∧
    d.exitDwell = c.exitDwell ∧ d.curtailCeiling = c.curtailCeiling ∧ d.curtailLeft = c.curtailLeft := by
  unfold BoundsAlone at h
  rw [h]
  exact ⟨rfl, rfl, rfl, rfl, rfl, rfl, rfl, rfl, rfl, rfl, rfl⟩

theorem boundsAlone_recomputeBounds (s : State) : BoundsAlone s.scu (State.recomputeBounds s).scu := rfl

/-! ### The boundary (R86) -/

/-- R34: the level of a gauge, when it is fresh by the installed stale limit. -/
theorem freshLevel_eq_freshIn (s : State) (n : Nat) : State.freshLevel s n = freshIn s s.tst.table n := by
  unfold State.freshLevel freshIn State.gauge gaugeFresh
  split
  · cases s.adu.gauges[n].level <;> simp
  · rfl

/-- R99: the exit condition. -/
theorem exitHolds_iff (s : State) : State.exitHolds s = true ↔
    ¬ LineActive s .floodAlarm ∧ s.scu.declared = false ∧
      ∃ level, freshIn s s.tst.table (headwaterGauge s.tst.table) = some level ∧
        level + hysteresis s.tst.table ≤ floodStage s.tst.table := by
  have hline : State.inputActive s .floodAlarm = false ↔ ¬ LineActive s .floodAlarm := by
    rw [← inputActive_iff, Bool.not_eq_true]
  unfold State.exitHolds
  rw [freshLevel_eq_freshIn, Bool.and_eq_true, Bool.and_eq_true, Bool.not_eq_true', Bool.not_eq_true', hline, and_assoc]
  cases freshIn s s.tst.table (headwaterGauge s.tst.table) <;> simp

/-- R99: what the exit condition goes by. -/
theorem exitHolds_congr {s t : State} (hrpu : t.rpu = s.rpu) (hspu : t.spu = s.spu) (hadu : t.adu = s.adu)
    (htst : t.tst = s.tst) (hdeclared : t.scu.declared = s.scu.declared) : State.exitHolds t = State.exitHolds s := by
  rw [Bool.eq_iff_iff, exitHolds_iff, exitHolds_iff]
  simp only [LineActive, State.panel, freshIn, hrpu, hspu, hadu, htst, hdeclared]

/-! #### The cursor and the limits -/

/-- R91: a block with cycles left goes on. -/
theorem stepCursor_continues (t : WordStore) (n : Nat) {left : Nat} (h : 1 < left) :
    stepCursor t (.block n left) = (.block n (left - 1), none) := by
  have h : 0 < left - 1 := by omega
  simp only [stepCursor, if_pos h]

/-- R91: at its end a block gives way to the block that follows it. -/
theorem stepCursor_follows {t : WordStore} {n m left : Nat} (h : left ≤ 1) (hm : blockNext t n = some m) :
    stepCursor t (.block n left) = (.block m (blockDuration t m), some (.schedule m false)) := by
  have h : ¬ 0 < left - 1 := by omega
  simp only [stepCursor, if_neg h, hm]

/-- R91: the end of the last block. -/
theorem stepCursor_ends {t : WordStore} {n left : Nat} (h : left ≤ 1) (hn : blockNext t n = none) :
    stepCursor t (.block n left) = (.holdingLast, some (.schedule n true)) := by
  have h : ¬ 0 < left - 1 := by omega
  simp only [stepCursor, if_neg h, hn]

/-- R85, R91, R93, R101: the SCU's record at a boundary, before the exit test. -/
def Scu.atBoundary (c : Scu) (t : WordStore) : Scu :=
  Scu.latch { Scu.nextInterval c t with
    curtailLeft := c.curtailLeft - 1, cursor := (stepCursor t c.cursor).1 } t

/-- R86: a boundary's next interval begun: the SCU's record and the cursor's notice. -/
def State.beginInterval (s : State) : State :=
  State.notifyOpt { s with scu := Scu.atBoundary s.scu s.table } (stepCursor s.table s.scu.cursor).2

/-- R86: the SCU's steps at a boundary, in their order. -/
theorem boundary_eq (s : State) : State.boundary s =
    (let u := State.recomputeBounds (State.floodExit (State.beginInterval s))
     { u with handed := { u.handed with
        boundary := false,
        reRatings := u.handed.reRatings ++ [u.scu.intervalNumber],
        maturities := u.handed.maturities ++ [u.scu.intervalNumber] } }) := rfl

/-- R85, R101: what a boundary counts, and what it leaves of the SCU's record to the exit test. -/
theorem atBoundary_counts (c : Scu) (t : WordStore) :
    (Scu.atBoundary c t).intervalNumber = c.intervalNumber + 1 ∧ (Scu.atBoundary c t).cycleCount = 0 ∧
    (Scu.atBoundary c t).intervalLength = cyclesPerInterval t ∧
    (Scu.atBoundary c t).curtailLeft = c.curtailLeft - 1 ∧ (Scu.atBoundary c t).curtailCeiling = c.curtailCeiling ∧
    (Scu.atBoundary c t).declared = c.declared ∧ (Scu.atBoundary c t).mode = c.mode ∧
    (Scu.atBoundary c t).exitDwell = c.exitDwell ∧ (Scu.atBoundary c t).cursor = (stepCursor t c.cursor).1 := by
  unfold Scu.atBoundary
  obtain ⟨l, o, e⟩ := latch_eq { Scu.nextInterval c t with
    curtailLeft := c.curtailLeft - 1, cursor := (stepCursor t c.cursor).1 } t
  rw [e]
  exact ⟨rfl, rfl, rfl, rfl, rfl, rfl, rfl, rfl, rfl⟩

/-- R93: the limits latched at a boundary, by the cursor's new position. -/
theorem atBoundary_limits (c : Scu) (t : WordStore) :
    ((stepCursor t c.cursor).1 = .none →
      (Scu.atBoundary c t).limits = defaultLimits t ∧ (Scu.atBoundary c t).source = none) ∧
    (∀ n left, (stepCursor t c.cursor).1 = .block n left →
      (Scu.atBoundary c t).limits = blockLimits t n ∧ (Scu.atBoundary c t).source = some n) ∧
    ((stepCursor t c.cursor).1 = .holdingLast →
      (Scu.atBoundary c t).limits = c.limits ∧ (Scu.atBoundary c t).source = c.source) := by
  unfold Scu.atBoundary Scu.latch
  refine ⟨fun e => ?_, fun n left e => ?_, fun e => ?_⟩ <;> simp [e, Scu.nextInterval]

@[simp] theorem beginInterval_scu (s : State) : (State.beginInterval s).scu = Scu.atBoundary s.scu s.table := by
  unfold State.beginInterval State.notifyOpt
  split <;> rfl

theorem beginInterval_mode (s : State) : (State.beginInterval s).scu.mode = s.scu.mode ∧
    (State.beginInterval s).scu.exitDwell = s.scu.exitDwell := by
  obtain ⟨-, -, -, -, -, -, hmode, hdwell, -⟩ := atBoundary_counts s.scu s.table
  rw [beginInterval_scu]
  exact ⟨hmode, hdwell⟩

theorem beginInterval_frame (s : State) :
    (State.beginInterval s).rpu = s.rpu ∧ (State.beginInterval s).adu = s.adu ∧ (State.beginInterval s).clu = s.clu ∧
    (State.beginInterval s).sqe = s.sqe ∧ (State.beginInterval s).spu = s.spu ∧ (State.beginInterval s).mgu = s.mgu ∧
    (State.beginInterval s).tst = s.tst ∧ (State.beginInterval s).handed = s.handed := by
  simp [State.beginInterval, notifyOpt_frame]

/-- R91: the notice of a cursor that takes up a block or comes to the end. -/
theorem beginInterval_ncu (s : State) : (State.beginInterval s).ncu = (match s.scu.cursor with
    | .block n left =>
      if 1 < left then s.ncu
      else (match blockNext s.tst.table n with
        | some m => Ncu.notify s.ncu (.schedule m false)
        | none => Ncu.notify s.ncu (.schedule n true))
    | _ => s.ncu) := by
  unfold State.beginInterval
  cases hc : s.scu.cursor with
  | none => rfl
  | holdingLast => rfl
  | block n left =>
    dsimp only
    by_cases hleft : 1 < left
    · rw [stepCursor_continues _ _ hleft, if_pos hleft]
      rfl
    · have hleft' : left ≤ 1 := by omega
      rw [if_neg hleft]
      cases hm : blockNext s.tst.table n with
      | some m => rw [stepCursor_follows hleft' hm]; rfl
      | none => rw [stepCursor_ends hleft' hm]; rfl

/-- R99: the exit condition is not touched by the steps of the boundary before the exit test. -/
theorem exitHolds_beginInterval (s : State) : State.exitHolds (State.beginInterval s) = State.exitHolds s := by
  obtain ⟨hrpu, hadu, -, -, hspu, -, htst, -⟩ := beginInterval_frame s
  obtain ⟨-, -, -, -, -, hdeclared, -⟩ := atBoundary_counts s.scu s.table
  exact exitHolds_congr hrpu hspu hadu htst ((congrArg Scu.declared (beginInterval_scu s)).trans hdeclared)

/-! #### The exit test (R99) -/

theorem floodExit_normal {s : State} (hm : s.scu.mode = .normal) : State.floodExit s = s := by
  simp only [State.floodExit, hm]

/-- R99: with the exit condition not met, the count restarts. -/
theorem floodExit_restarts {s : State} (hm : s.scu.mode = .flood) (hx : State.exitHolds s = false) :
    State.floodExit s = { s with scu := { s.scu with exitDwell := 0 } } := by
  simp only [State.floodExit, hm, hx, Bool.false_eq_true, if_false]

/-- R99: below the exit dwell limit, the count rises. -/
theorem floodExit_counts {s : State} (hm : s.scu.mode = .flood) (hx : State.exitHolds s = true)
    (hd : min 255 (s.scu.exitDwell + 1) < exitDwellLimit s.tst.table) :
    State.floodExit s = { s with scu := { s.scu with exitDwell := min 255 (s.scu.exitDwell + 1) } } := by
  have hd : ¬ exitDwellLimit s.tst.table ≤ satAdd 255 s.scu.exitDwell 1 := Nat.not_le.mpr hd
  simp only [State.floodExit, hm, hx, if_true, if_neg hd]
  rfl

/-- R99: at the exit dwell limit, the station leaves FLOOD. -/
theorem floodExit_leaves {s : State} (hm : s.scu.mode = .flood) (hx : State.exitHolds s = true)
    (hd : exitDwellLimit s.tst.table ≤ min 255 (s.scu.exitDwell + 1)) :
    State.floodExit s =
      State.notify { s with scu := { s.scu with mode := .normal, exitDwell := 0 } } (.mode .normal .dwell) := by
  have hd : exitDwellLimit s.tst.table ≤ satAdd 255 s.scu.exitDwell 1 := hd
  simp only [State.floodExit, hm, hx, if_true, if_pos hd]

/-- R99: the exit test changes of the SCU's record the mode and the exit dwell count alone. -/
theorem floodExit_scu (s : State) :
    ∃ m n, (State.floodExit s).scu = { s.scu with mode := m, exitDwell := n } := by
  unfold State.floodExit
  split
  · exact ⟨s.scu.mode, s.scu.exitDwell, rfl⟩
  · split
    · dsimp only
      split
      · exact ⟨_, _, rfl⟩
      · exact ⟨s.scu.mode, _, rfl⟩
    · exact ⟨s.scu.mode, _, rfl⟩

/-- R99: the MODE notice of an exit. -/
theorem floodExit_ncu (s : State) : (State.floodExit s).ncu =
    (if s.scu.mode = .flood ∧ State.exitHolds s = true ∧ exitDwellLimit s.tst.table ≤ min 255 (s.scu.exitDwell + 1)
      then Ncu.notify s.ncu (.mode .normal .dwell) else s.ncu) := by
  split
  · rename_i h
    rw [floodExit_leaves h.1 h.2.1 h.2.2]
    rfl
  · rename_i h
    cases hm : s.scu.mode with
    | normal => rw [floodExit_normal hm]
    | flood =>
      cases hx : State.exitHolds s with
      | false => rw [floodExit_restarts hm hx]
      | true => rw [floodExit_counts hm hx (Nat.not_le.mp fun hd => h ⟨hm, hx, hd⟩)]

/-- R86: the SCU's record after a boundary is the one the exit test leaves, with the bounds recomputed. -/
theorem boundary_scu (s : State) :
    BoundsAlone (State.floodExit (State.beginInterval s)).scu (State.boundary s).scu := rfl

/-- R85, R91, R93, R101: a boundary counts, moves the cursor and latches limits as `Scu.atBoundary` does. -/
theorem boundary_counts (s : State) {c : Scu} (hc : c = Scu.atBoundary s.scu s.tst.table) :
    (State.boundary s).scu.intervalNumber = c.intervalNumber ∧ (State.boundary s).scu.cycleCount = c.cycleCount ∧
    (State.boundary s).scu.intervalLength = c.intervalLength ∧ (State.boundary s).scu.curtailLeft = c.curtailLeft ∧
    (State.boundary s).scu.curtailCeiling = c.curtailCeiling ∧ (State.boundary s).scu.declared = c.declared ∧
    (State.boundary s).scu.cursor = c.cursor ∧ (State.boundary s).scu.limits = c.limits ∧
    (State.boundary s).scu.source = c.source := by
  obtain ⟨m, n, e⟩ := floodExit_scu (State.beginInterval s)
  rw [beginInterval_scu] at e
  obtain ⟨hnumber, hcycles, hlength, hcursor, hlimits, hsource, -, hdeclared, -, hceiling, hleft⟩ :=
    boundsAlone_fields (boundary_scu s)
  rw [hnumber, hcycles, hlength, hcursor, hlimits, hsource, hdeclared, hceiling, hleft, e, hc]
  exact ⟨rfl, rfl, rfl, rfl, rfl, rfl, rfl, rfl, rfl⟩

/-- R93, R99: the mode and the exit dwell count after a boundary. -/
theorem boundary_mode (s : State) :
    (s.scu.mode = .normal →
      (State.boundary s).scu.mode = .normal ∧ (State.boundary s).scu.exitDwell = s.scu.exitDwell) ∧
    (s.scu.mode = .flood → State.exitHolds s = false →
      (State.boundary s).scu.mode = .flood ∧ (State.boundary s).scu.exitDwell = 0) ∧
    (s.scu.mode = .flood → State.exitHolds s = true →
      exitDwellLimit s.tst.table ≤ min 255 (s.scu.exitDwell + 1) →
      (State.boundary s).scu.mode = .normal ∧ (State.boundary s).scu.exitDwell = 0) ∧
    (s.scu.mode = .flood → State.exitHolds s = true →
      min 255 (s.scu.exitDwell + 1) < exitDwellLimit s.tst.table →
      (State.boundary s).scu.mode = .flood ∧ (State.boundary s).scu.exitDwell = min 255 (s.scu.exitDwell + 1)) := by
  obtain ⟨-, -, -, -, -, -, hm, -, hd, -⟩ := boundsAlone_fields (boundary_scu s)
  obtain ⟨hmode, hdwell⟩ := beginInterval_mode s
  have hx := exitHolds_beginInterval s
  obtain ⟨-, -, -, -, -, -, htst, -⟩ := beginInterval_frame s
  rw [hm, hd, ← hmode, ← hx, ← hdwell, ← htst]
  refine ⟨fun h => ?_, fun h hx => ?_, fun h hx hd => ?_, fun h hx hd => ?_⟩
  · rw [floodExit_normal h]
    exact ⟨h, rfl⟩
  · rw [floodExit_restarts h hx]
    exact ⟨h, rfl⟩
  · rw [floodExit_leaves h hx hd]
    exact ⟨rfl, rfl⟩
  · rw [floodExit_counts h hx hd]
    exact ⟨h, rfl⟩

/-- R99: the MODE notice of a boundary that leaves FLOOD. -/
theorem boundary_ncu (s : State) : (State.boundary s).ncu =
    (if s.scu.mode = .flood ∧ State.exitHolds s = true ∧ exitDwellLimit s.tst.table ≤ min 255 (s.scu.exitDwell + 1)
      then Ncu.notify (State.beginInterval s).ncu (.mode .normal .dwell) else (State.beginInterval s).ncu) := by
  obtain ⟨hmode, hdwell⟩ := beginInterval_mode s
  obtain ⟨-, -, -, -, -, -, htst, -⟩ := beginInterval_frame s
  rw [← hmode, ← hdwell, ← exitHolds_beginInterval, ← htst]
  exact floodExit_ncu _

theorem boundary_handed (s : State) : (State.boundary s).handed = { s.handed with
    boundary := false, reRatings := s.handed.reRatings ++ [(State.boundary s).scu.intervalNumber],
    maturities := s.handed.maturities ++ [(State.boundary s).scu.intervalNumber] } := by
  have hu : (State.recomputeBounds (State.floodExit (State.beginInterval s))).handed = s.handed := by
    simp [floodExit_frame, beginInterval_frame]
  rw [← hu]
  rfl

theorem bounds_boundary (s : State) : BoundsOk (State.boundary s) :=
  bounds_recompute (State.floodExit (State.beginInterval s))

/-- R86: what a boundary leaves alone. -/
theorem boundary_frame (s : State) :
    (State.boundary s).adu = s.adu ∧ (State.boundary s).clu = s.clu ∧ (State.boundary s).sqe = s.sqe ∧
    (State.boundary s).spu = s.spu ∧ (State.boundary s).rpu = s.rpu ∧ (State.boundary s).mgu = s.mgu ∧
    (State.boundary s).tst = s.tst := by
  simp [boundary_eq, floodExit_frame, beginInterval_frame]

end Sys2Proof.Machine

namespace Sys2Proof.Intervals

open Machine Safety

/-- Settles O20: the boundary is the next interval begun, the exit test, and the bounds recomputed. -/
theorem boundaryAdvancesInterval : Obligations.BoundaryAdvancesInterval := by
  unfold Obligations.BoundaryAdvancesInterval
  intro s hs
  have ht : exec .intervalBoundary s = .next (State.boundary s) := by
    simp only [exec, execIntervalBoundary, State.takeBoundary, hs, if_true]
  obtain ⟨hadu, hclu, hsqe, hspu, hrpu, hmgu, htst⟩ := boundary_frame s
  obtain ⟨hnumber, hcycles, hlength, hleft, hceiling, hdeclared, -, -, hcursor⟩ :=
    atBoundary_counts s.scu s.tst.table
  obtain ⟨hnone, hblock, hholding⟩ := atBoundary_limits s.scu s.tst.table
  obtain ⟨hmode, hrestarts, hleaves, hcounts⟩ := boundary_mode s
  refine ⟨State.boundary s, (State.beginInterval s).ncu, ht, exitHolds_iff s, beginInterval_ncu s, boundary_ncu s, ?_⟩
  obtain ⟨knumber, kcycles, klength, kleft, kceiling, kdeclared, kcursor, klimits, ksource⟩ := boundary_counts s rfl
  rw [knumber, kcycles, klength, kleft, kceiling, kdeclared, kcursor, klimits, ksource, hcursor]
  refine ⟨hnumber, hcycles, hlength, hleft, hceiling, hdeclared, fun hc => ?_, fun hc => ?_, fun n left hc h => ?_,
    fun n left m hc h hm => ?_, fun n left hc h hn => ?_, hmode, hrestarts, hleaves, hcounts, bounds_boundary s, ?_,
    hadu, hclu, hsqe, hspu, hrpu, hmgu, htst⟩
  · have hstep : (stepCursor s.tst.table s.scu.cursor).1 = .none := by rw [hc]; rfl
    exact ⟨hstep, hnone hstep⟩
  · have hstep : (stepCursor s.tst.table s.scu.cursor).1 = .holdingLast := by rw [hc]; rfl
    exact ⟨hstep, hholding hstep⟩
  · have hstep : (stepCursor s.tst.table s.scu.cursor).1 = .block n (left - 1) := by rw [hc, stepCursor_continues _ _ h]
    exact ⟨hstep, hblock _ _ hstep⟩
  · have hstep : (stepCursor s.tst.table s.scu.cursor).1 = .block m (blockDuration s.tst.table m) := by
      rw [hc, stepCursor_follows h hm]
    exact ⟨hstep, hblock _ _ hstep⟩
  · have hstep : (stepCursor s.tst.table s.scu.cursor).1 = .holdingLast := by rw [hc, stepCursor_ends h hn]
    exact ⟨hstep, hholding hstep⟩
  · rw [boundary_handed, knumber]

end Sys2Proof.Intervals

namespace Sys2Proof.Machine

open Safety

/-! ### The maturing (R121) -/

section

variable {s : State} {n : BitVec 32} {rest : List (BitVec 32)} (hs : s.handed.maturities = n :: rest)

include hs

/-- R121: with no entry due, the boundary event alone is taken. -/
theorem takeMaturity_none (h : s.clu.arrivals.takeWhile (fun e => dueBy e.due n) = []) :
    State.takeMaturity s = { s with handed := { s.handed with maturities := rest } } := by
  simp only [State.takeMaturity, hs, State.mature, h, List.getLast?_nil]

/-- R121, R122: the entries due leave the queue, and the last of them gives the expected inflow. -/
theorem takeMaturity_last {e : Arrival} (h : (s.clu.arrivals.takeWhile (fun e => dueBy e.due n)).getLast? = some e) :
    State.takeMaturity s = State.recomputeBounds { s with
      handed := { s.handed with maturities := rest }
      clu := { s.clu with
        arrivals := s.clu.arrivals.dropWhile (fun e => dueBy e.due n), inflow := some (Arrival.inflow e) } } := by
  simp only [State.takeMaturity, hs, State.mature, h]

end

end Sys2Proof.Machine

namespace Sys2Proof.Intervals

open Machine Safety

/-- Settles O22: by whether an entry is due. -/
theorem maturityAdoptsLastEntry : Obligations.MaturityAdoptsLastEntry := by
  unfold Obligations.MaturityAdoptsLastEntry
  intro s n rest hs
  refine ⟨State.takeMaturity s, rfl, ?_⟩
  cases hdue : (s.clu.arrivals.takeWhile (fun e => dueBy e.due n)).getLast? with
  | none =>
    have hnone := List.getLast?_eq_none_iff.mp hdue
    have hrest : s.clu.arrivals = s.clu.arrivals.dropWhile (fun e => dueBy e.due n) := by
      have hsplit := List.takeWhile_append_dropWhile (p := fun e : Arrival => dueBy e.due n) (l := s.clu.arrivals)
      rw [hnone] at hsplit
      exact hsplit.symm
    rw [takeMaturity_none hs hnone]
    exact ⟨hrest, rfl, fun h => absurd hnone h, fun _ => rfl, rfl, rfl, rfl, rfl, rfl, rfl, rfl, rfl, rfl, rfl⟩
  | some e =>
    have hsome : s.clu.arrivals.takeWhile (fun e => dueBy e.due n) ≠ [] := fun h => by
      rw [h] at hdue
      cases hdue
    rw [takeMaturity_last hs hdue]
    exact ⟨rfl, rfl, fun _ => ⟨bounds_recompute _, boundsAlone_recomputeBounds _⟩, fun h => absurd h hsome,
      rfl, rfl, rfl, rfl, rfl, rfl, rfl, rfl, rfl, rfl⟩

end Sys2Proof.Intervals

namespace Sys2Proof.Machine

open Safety

/-! ### SCHEDULE_START, FLOOD_DECLARE and FLOOD_CANCEL (R92, R97, R98) -/

/-- R159: below FULL, only LOCK_LOWER can be forbidden. -/
theorem forbidsCommand_below_full {u : Mgu} {c : Command} (hl : u.lock ≠ .full) (hc : c ≠ .lockLower) :
    Mgu.forbidsCommand u c = false := by
  unfold Mgu.forbidsCommand
  split
  · rfl
  · simp [hc]
  · exact absurd ‹_› hl

/-- R3: a frame has taken its slot, and is yet to be answered. -/
def State.slotTaken (s : State) : State := { s with rpu := { s.rpu with slotPos := s.rpu.slotPos + 1 } }

/-- R151, R159: below FULL, a command of the schedule, of FLOOD or of the gates passes the tests that go by the state. -/
theorem ringArrival_accepted {s : State} {q : CommandRequest} {c : Command} {code : Byte} (hslot : AtManagement s)
    (hlock : s.mgu.lock ≠ .full) (hcode : commandOf code = some c) (harg : argumentFails c q.arg.toNat = false)
    (hlower : c ≠ .lockLower) (hstep : c ≠ .engineStep) (hbusy : Command.busy c = false) :
    State.ringArrival s (commandFrame code q) false =
      State.emit (State.command (State.slotTaken s) c q.arg.toNat) (commandReply code q) :=
  ringArrival_commandRequest hslot q hcode harg (forbidsCommand_below_full hlock hlower) (.inr ⟨hstep, hlower⟩)
    (.inr hbusy) false

/-- R98: once declared, an entry condition holds; the alarm comes before the declaration as its cause. -/
theorem floodCause_declared {s : State} (h : s.scu.declared = true) :
    State.floodCause s = some (if State.inputActive s .floodAlarm then .alarm else .declare) := by
  simp only [State.floodCause, h, if_true]
  split <;> rfl

/-- R97, R98: FLOOD_DECLARE in NORMAL enters FLOOD. -/
theorem declareFlood_normal {s : State} (hm : s.scu.mode = .normal) : State.declareFlood s =
    State.recomputeBounds (State.notify
      { s with scu := { s.scu with declared := true, mode := .flood, exitDwell := 0 } }
      (.mode .flood (if State.inputActive s .floodAlarm then .alarm else .declare))) :=
  floodTest_normal (s := { s with scu := { s.scu with declared := true } }) (floodCause_declared rfl) hm

/-- R97, R98: FLOOD_DECLARE in FLOOD restarts the exit dwell count. -/
theorem declareFlood_flood {s : State} (hm : s.scu.mode = .flood) : State.declareFlood s =
    { s with scu := { s.scu with declared := true, exitDwell := 0 } } :=
  floodTest_flood (s := { s with scu := { s.scu with declared := true } }) (floodCause_declared rfl) hm

end Sys2Proof.Machine

namespace Sys2Proof.Intervals

open Machine Safety

/-- R92, R93: SCHEDULE_START carried out. -/
theorem exec_scheduleStart {s : Machine.State} {q : CommandRequest} (hslot : AtManagement s)
    (hlock : s.mgu.lock ≠ .full) (hn : q.arg.toNat ≤ 31) :
    exec (.scheduleStart q) s =
      .next (State.emit (State.startSchedule (State.slotTaken s) q.arg.toNat) (commandReply 11 q)) :=
  congrArg Host.Outcome.next (ringArrival_accepted hslot hlock (c := .scheduleStart) rfl
    (decide_eq_false (Nat.not_lt.mpr hn)) nofun nofun rfl)

/-- R97: FLOOD_DECLARE carried out. -/
theorem exec_floodDeclare {s : Machine.State} (q : CommandRequest) (hslot : AtManagement s)
    (hlock : s.mgu.lock ≠ .full) :
    exec (.floodDeclare q) s = .next (State.emit (State.declareFlood (State.slotTaken s)) (commandReply 12 q)) :=
  congrArg Host.Outcome.next (ringArrival_accepted hslot hlock (c := .floodDeclare) rfl rfl nofun nofun rfl)

/-- R97: FLOOD_CANCEL carried out. -/
theorem exec_floodCancel {s : Machine.State} (q : CommandRequest) (hslot : AtManagement s)
    (hlock : s.mgu.lock ≠ .full) :
    exec (.floodCancel q) s = .next (State.emit (State.cancelFlood (State.slotTaken s)) (commandReply 13 q)) :=
  congrArg Host.Outcome.next (ringArrival_accepted hslot hlock (c := .floodCancel) rfl rfl nofun nofun rfl)

/-- Settles O60: each command passes every test of R151 and is handed to the SCU. -/
theorem scheduleAndFloodCommands : Obligations.ScheduleAndFloodCommands := by
  unfold Obligations.ScheduleAndFloodCommands
  intro s q hslot hlock
  refine ⟨fun n hn hn31 => ⟨_, exec_scheduleStart hslot hlock (hn ▸ hn31), ?_⟩,
    fun hm => ⟨_, exec_floodDeclare q hslot hlock, ?_⟩, fun hm => ?_, exec_floodCancel q hslot hlock⟩
  · subst hn
    exact ⟨rfl, rfl, rfl, rfl, rfl, rfl, rfl, rfl, rfl, bounds_recompute _, boundsAlone_recomputeBounds _, rfl, rfl, rfl,
      rfl, rfl, rfl, rfl, rfl, rfl⟩
  · rw [declareFlood_normal (s := State.slotTaken s) hm]
    exact ⟨rfl, rfl, rfl, bounds_recompute _, rfl, boundsAlone_recomputeBounds _, rfl, rfl, rfl, rfl, rfl, rfl, rfl, rfl,
      rfl, rfl, rfl⟩
  · rw [exec_floodDeclare q hslot hlock, declareFlood_flood (s := State.slotTaken s) hm]
    rfl

end Sys2Proof.Intervals

namespace Sys2Proof.Machine

open Safety

/-! ### A valid message on a port (R107 to R109, R116) -/

/-- R107, R108: a message with a matching check from the neighbour a present port expects is valid. -/
theorem linkArrival_valid {s : State} {p : Port} {m : LinkMsg} (hp : (State.port s p).state ≠ .absent)
    (hgood : LinkMsg.good m = true) (hsender : expectedSender s.tst.table p = some m.sender.toNat) :
    State.linkArrival s p m = State.disposeMsg (State.validMsg s p) p m := by
  unfold State.linkArrival
  split
  · exact absurd ‹_› hp
  · rw [hgood, if_neg (by decide), if_neg (not_not_intro hsender)]

/-- R109: a port that a valid message has found or brought UP; a LINK notice tells of a port that was DOWN. -/
def State.portUp (s : State) (p : Port) : State :=
  { State.setPort s p { State.port s p with miswired := false, silence := 0, state := .up } with
    ncu := if (State.port s p).state = .up then s.ncu else Ncu.notify s.ncu (.link p .up) }

/-- R109: a valid message brings its port UP. -/
theorem validMsg_eq {s : State} {p : Port} (hp : (State.port s p).state ≠ .absent) :
    State.validMsg s p = State.portUp s p := by
  unfold State.validMsg State.portUp
  dsimp only
  cases hstate : (State.port s p).state with
  | absent => exact absurd hstate hp
  | down =>
    rw [if_pos rfl, if_neg nofun]
    cases p <;> rfl
  | up =>
    rw [if_neg nofun, if_pos rfl]
    cases p <;> rfl

/-- R105, R116: a TAKEN reply waits behind those that wait, unless two do. -/
theorem placeReply_eq (s : State) (p : Port) (m : LinkMsg) : State.placeReply s p m =
    State.setPort s p { State.port s p with
      replies := if (State.port s p).replies.length < 2 then (State.port s p).replies ++ [⟨m.kind, m.tag⟩]
        else (State.port s p).replies } := by
  unfold State.placeReply
  dsimp only
  split
  · rfl
  · exact (setPort_port s p).symm

/-- R118: a valid RELEASE on the up port is filed and answered. -/
theorem disposeMsg_release (s : State) (f : LinkFields) : State.disposeMsg s .up (goodMsg msgRelease f) =
    State.placeReply (State.placeArrival s (State.arrivalOf s (goodMsg msgRelease f))) .up (goodMsg msgRelease f) := rfl

/-- R117: a valid CURTAIL on the down port sets the curtailment record and is answered. -/
theorem disposeMsg_curtail (s : State) (f : LinkFields) : State.disposeMsg s .down (goodMsg msgCurtail f) =
    State.placeReply (State.setCurtail s f.value.toNat f.dur.toNat) .down (goodMsg msgCurtail f) := rfl

/-! #### An arrival entry in the queue (R119, R120) -/

/-- R119: an entry takes the place of the one that shares its due interval. -/
theorem placeArrival_replaces {s : State} {e : Arrival} (h : ∃ x ∈ s.clu.arrivals, x.due = e.due) :
    State.placeArrival s e = { s with clu := { s.clu with
      arrivals := s.clu.arrivals.map (fun x => if x.due = e.due then e else x) } } := by
  have hany : s.clu.arrivals.any (fun x => x.due = e.due) = true := by simpa using h
  simp only [State.placeArrival, hany, if_true]
  rfl

theorem not_any_due {l : List Arrival} {e : Arrival} (h : ∀ x ∈ l, x.due ≠ e.due) :
    l.any (fun x => x.due = e.due) = false := by simpa using h

/-- R119: below 64 entries, an entry joins the queue in due order. -/
theorem placeArrival_joins {s : State} {e : Arrival} (h : ∀ x ∈ s.clu.arrivals, x.due ≠ e.due)
    (hlength : s.clu.arrivals.length < 64) :
    State.placeArrival s e = { s with clu := { s.clu with
      arrivals := s.clu.arrivals.takeWhile (fun x => dueBefore x.due e.due) ++
        e :: s.clu.arrivals.dropWhile (fun x => dueBefore x.due e.due) } } := by
  rw [← insertArrival_eq]
  simp only [State.placeArrival, not_any_due h, Bool.false_eq_true, if_false]
  split
  · rename_i hq
    rw [hq]
    rfl
  · rename_i hq
    rw [← hq, if_pos hlength]

/-- R120: at 64 entries the head of the queue matures early. -/
theorem placeArrival_matures {s : State} {e x : Arrival} {rest : List Arrival}
    (h : ∀ x ∈ s.clu.arrivals, x.due ≠ e.due) (hlength : 64 ≤ s.clu.arrivals.length)
    (hq : s.clu.arrivals = x :: rest) :
    State.placeArrival s e = State.recomputeBounds (State.count { s with clu := { s.clu with
      arrivals := rest.takeWhile (fun y => dueBefore y.due e.due) ++
        e :: rest.dropWhile (fun y => dueBefore y.due e.due),
      inflow := some (Arrival.inflow x) } } .queueEarly) := by
  have hany := not_any_due h
  rw [hq] at hany hlength
  rw [← insertArrival_eq]
  simp only [State.placeArrival, hq, hany, Bool.false_eq_true, if_false, if_neg (Nat.not_lt.mpr hlength)]

/-- R119, R120: what filing an entry leaves alone. -/
theorem placeArrival_frame (s : State) (e : Arrival) :
    (State.placeArrival s e).adu = s.adu ∧ (State.placeArrival s e).sqe = s.sqe ∧
    (State.placeArrival s e).spu = s.spu ∧ (State.placeArrival s e).rpu = s.rpu ∧
    (State.placeArrival s e).mgu = s.mgu ∧ (State.placeArrival s e).tst = s.tst ∧
    (State.placeArrival s e).handed = s.handed := by
  unfold State.placeArrival
  (repeat' split) <;> simp

/-! #### A curtailment received (R101) -/

/-- R101: a curtailment changes the SCU's record alone. -/
theorem setCurtail_frame (s : State) (ceiling duration : Nat) :
    (State.setCurtail s ceiling duration).adu = s.adu ∧ (State.setCurtail s ceiling duration).sqe = s.sqe ∧
    (State.setCurtail s ceiling duration).spu = s.spu ∧ (State.setCurtail s ceiling duration).rpu = s.rpu ∧
    (State.setCurtail s ceiling duration).mgu = s.mgu ∧ (State.setCurtail s ceiling duration).tst = s.tst ∧
    (State.setCurtail s ceiling duration).ncu = s.ncu ∧ (State.setCurtail s ceiling duration).handed = s.handed := by
  unfold State.setCurtail
  split <;> simp

/-- R101: a duration of 0 ends a curtailment, and any other, held at 255, sets it. -/
theorem setCurtail_scu (s : State) (ceiling duration : Nat) :
    BoundsAlone { s.scu with
      curtailLeft := (State.setCurtail s ceiling duration).scu.curtailLeft,
      curtailCeiling := (State.setCurtail s ceiling duration).scu.curtailCeiling }
      (State.setCurtail s ceiling duration).scu ∧
    (State.setCurtail s ceiling duration).scu.curtailLeft = min 255 duration ∧
    (State.setCurtail s ceiling duration).scu.curtailCeiling =
      if duration = 0 then s.scu.curtailCeiling else ceiling := by
  unfold State.setCurtail
  split
  · subst_vars
    exact ⟨rfl, rfl, rfl⟩
  · exact ⟨rfl, rfl, rfl⟩

theorem bounds_setCurtail (s : State) (ceiling duration : Nat) : BoundsOk (State.setCurtail s ceiling duration) :=
  bounds_recompute _

/-- R94 to R96: no port is an input of the bounds. -/
theorem bounds_setPort {s : State} (h : BoundsOk s) (p : Port) (r : LinkPort) : BoundsOk (State.setPort s p r) := by
  cases p <;> exact h

end Sys2Proof.Machine

namespace Sys2Proof.Intervals

open Machine Safety

/-- R109, R116, R118: a valid RELEASE brings the up port UP, is filed, and is answered. -/
theorem exec_release {s : Machine.State} {f : LinkFields} {e : Arrival} (hup : (State.port s .up).state ≠ .absent)
    (hsender : expectedSender s.tst.table .up = some f.sender.toNat)
    (he : e = ⟨s.scu.intervalNumber, s.scu.intervalNumber + BitVec.ofNat 32 (linkLag s.tst.table), f.value.toNat,
      f.flags.getLsbD 0, f.dur⟩) :
    exec (.release f) s = .next (State.setPort (State.placeArrival (State.portUp s .up) e) .up { s.clu.up with
      state := .up, miswired := false, silence := 0,
      replies := if s.clu.up.replies.length < 2 then s.clu.up.replies ++ [⟨msgRelease, f.tag⟩]
        else s.clu.up.replies }) := by
  have harrival : exec (.release f) s = .next (State.linkArrival s .up (goodMsg msgRelease f)) := rfl
  have hentry : State.arrivalOf (State.portUp s .up) (goodMsg msgRelease f) = e := he.symm
  rw [harrival, linkArrival_valid hup (good_goodMsg _ _) hsender, disposeMsg_release, validMsg_eq hup, hentry,
    placeReply_eq, port_placeArrival]
  rfl

/-- R109, R116, R117: a valid CURTAIL brings the down port UP, sets the curtailment record, and is answered. -/
theorem exec_curtail {s : Machine.State} {f : LinkFields} (hdown : (State.port s .down).state ≠ .absent)
    (hsender : expectedSender s.tst.table .down = some f.sender.toNat) :
    exec (.curtail f) s = .next (State.setPort (State.setCurtail (State.portUp s .down) f.value.toNat f.dur.toNat)
      .down { s.clu.down with
        state := .up, miswired := false, silence := 0,
        replies := if s.clu.down.replies.length < 2 then s.clu.down.replies ++ [⟨msgCurtail, f.tag⟩]
          else s.clu.down.replies }) := by
  have harrival : exec (.curtail f) s = .next (State.linkArrival s .down (goodMsg msgCurtail f)) := rfl
  rw [harrival, linkArrival_valid hdown (good_goodMsg _ _) hsender, disposeMsg_curtail, validMsg_eq hdown, placeReply_eq,
    port_setCurtail]
  rfl

/-- R109: a port brought UP raises no counter. -/
theorem reported_portUp (s : Machine.State) (p : Port) :
    ∃ l, Ncu.Reported s.ncu (State.portUp s p).ncu l (fun _ => 0) := by
  unfold State.portUp
  dsimp only
  split
  · exact ⟨_, Ncu.Reported.refl s.ncu⟩
  · exact ⟨_, reported_notify s.ncu _⟩

/-- Settles O48: a RELEASE, by what it finds in the arrival queue, and a CURTAIL, by its duration. -/
theorem releaseAndCurtailAreTaken : Obligations.ReleaseAndCurtailAreTaken := by
  unfold Obligations.ReleaseAndCurtailAreTaken
  refine ⟨fun s f e w hup hw hsender he => ⟨_, exec_release hup hsender he, ?_⟩,
    fun s f hdown hsender => ⟨_, exec_curtail hdown hsender, ?_⟩⟩
  · subst hw
    obtain ⟨hadu, hsqe, hspu, hrpu, hmgu, htst, hhanded⟩ := placeArrival_frame (State.portUp s .up) e
    refine ⟨rfl, port_placeArrival (State.portUp s .up) e .down, fun hshared => ?_, fun hnew hlength => ?_,
      fun x rest hnew hlength hq => ?_, hadu, hsqe, hspu, hrpu, hmgu, htst, hhanded⟩
    · rw [placeArrival_replaces (s := State.portUp s .up) hshared]
      exact ⟨rfl, rfl, rfl, rfl⟩
    · rw [placeArrival_joins (s := State.portUp s .up) hnew hlength]
      exact ⟨rfl, rfl, rfl, rfl⟩
    · obtain ⟨l, hnotice⟩ := reported_portUp s .up
      have hcounted := hnotice.trans (reported_count (State.portUp s .up) .queueEarly)
      rw [placeArrival_matures (s := State.portUp s .up) hnew hlength hq]
      refine ⟨rfl, rfl, bounds_setPort (bounds_recompute _) _ _, rfl, rfl, rfl, hcounted.countersKept fun c hc => ?_,
        hcounted.station .queueEarly⟩
      simpa [onlyCounter] using hc
  · have hclu := setCurtail_clu (State.portUp s .down) f.value.toNat f.dur.toNat
    obtain ⟨hadu, hsqe, hspu, hrpu, hmgu, htst, hncu, hhanded⟩ :=
      setCurtail_frame (State.portUp s .down) f.value.toNat f.dur.toNat
    obtain ⟨halone, hleft, hceiling⟩ := setCurtail_scu (State.portUp s .down) f.value.toNat f.dur.toNat
    refine ⟨fun hdur => ?_, fun hdur => ?_, bounds_setPort (bounds_setCurtail _ _ _) _ _, halone, ?_, hncu, hadu, hsqe,
      hspu, hrpu, hmgu, htst, hhanded⟩
    · rw [State.setPort_scu, hleft, hceiling, hdur]
      exact ⟨rfl, rfl⟩
    · have hdur : f.dur.toNat ≠ 0 := fun h => hdur (BitVec.eq_of_toNat_eq h)
      rw [State.setPort_scu, hleft, hceiling, if_neg hdur]
      exact ⟨rfl, rfl⟩
    · simp only [State.setPort, hclu]
      rfl

end Sys2Proof.Intervals

namespace Sys2Proof.Machine

open Safety

/-! ### A CURTAIL for the up port (R111, R114) -/

/-- R3, R111: what is produced for a port does not go by the slot position. -/
theorem produce_slotTaken (s : State) (p : Port) (m : Produced) :
    State.produce (State.slotTaken s) p m = State.slotTaken (State.produce s p m) := by
  have hport : State.port (State.slotTaken s) p = State.port s p := by cases p <;> rfl
  unfold State.produce
  rw [hport]
  dsimp only
  split <;> cases p <;> rfl

end Sys2Proof.Machine

namespace Sys2Proof.Links

open Machine Safety

/-- R114, R162: a CURTAIL_REQUEST carried out: the CURTAIL of the request area produced for the up port. -/
theorem exec_curtailRequest {s : Machine.State} (q : CommandRequest) (hslot : AtManagement s)
    (hlock : s.mgu.lock ≠ .full) :
    exec (.curtailRequest q) s = .next (tookFrame
      (State.produceCurtail s (requestCeiling s.tst.table) (requestDuration s.tst.table)) (commandReply 14 q)) := by
  refine congrArg Host.Outcome.next
    ((ringArrival_accepted hslot hlock (c := .curtailRequest) rfl rfl nofun nofun rfl).trans ?_)
  exact congrArg (State.emit · (commandReply 14 q)) (produce_slotTaken s .up _)

/-- Settles O26: both commands produce a CURTAIL for the up port, and `produce_spec` says what that does. -/
theorem curtailIsProduced : Obligations.CurtailIsProduced := by
  unfold Obligations.CurtailIsProduced
  refine ⟨fun s ceiling duration rest hs => ⟨_, ?_, produce_spec _ _ _⟩,
    fun s q hslot hlock => ⟨_, exec_curtailRequest q hslot hlock, produce_spec _ _ _⟩⟩
  simp only [exec, execCurtailUp, State.takeCurtail, hs]
  rfl

end Sys2Proof.Links

namespace Sys2Proof.Machine

open Safety

/-! ### The counts of a port taken ahead of the tick (log 2) -/

/-- A count's part already taken, or short of its limit: the command changes nothing. -/
theorem tickAhead_unchanged {s : State} {x : TickPart}
    (h : x ∈ s.handed.ticked ∨ State.expired (State.raise s x) x = false) : State.tickAhead s x = s := by
  rcases tickAhead_cases s x with ⟨-, e⟩ | ⟨hmem, hexp, -⟩
  · exact e
  · rcases h with h | h
    · exact absurd h hmem
    · exact absurd (h.symm.trans hexp) nofun

/-- A count that comes to its limit: its part of the tick, marked as taken. -/
theorem tickAhead_expires {s : State} {x : TickPart} (hmem : x ∉ s.handed.ticked)
    (hexp : State.expired (State.raise s x) x = true) (hhanded : (State.tickPart s x).handed = s.handed) :
    State.tickAhead s x = { State.tickPart s x with
      handed := { s.handed with ticked := s.handed.ticked ++ [x] } } := by
  rw [State.tickAhead, if_pos hexp]
  rcases takeAhead_cases s x with ⟨h, -⟩ | ⟨-, e⟩
  · exact absurd h hmem
  · rw [e, hhanded]

/-- R106: the time since the last BEACON, raised by one tick, comes to 100 ms on a present port. -/
theorem expired_beacon (s : State) (p : Port) :
    State.expired (State.raise s (.beacon p)) (.beacon p) = true ↔
      (State.port s p).state ≠ .absent ∧ 100 ≤ (State.port s p).beaconTimer + 1 := by
  by_cases habs : (State.port s p).state = .absent <;> simp [State.raise, State.expired, habs]

/-- R110: the silence count, raised by one tick, takes its port DOWN. -/
theorem expired_silence (s : State) (p : Port) :
    State.expired (State.raise s (.silence p)) (.silence p) = silenceExpires s.tst.table (State.port s p) := by
  by_cases habs : (State.port s p).state = .absent <;>
    simp [State.raise, State.expired, State.table, silenceExpires, habs, satAdd]

/-- R113: the TAKEN count, raised by one tick, gives the outstanding message up. -/
theorem expired_taken (s : State) (p : Port) :
    State.expired (State.raise s (.taken p)) (.taken p) = takenExpires s.tst.table (State.port s p) := by
  have hraised : LinkPort.outstandingLeft { State.port s p with takenCount := (State.port s p).takenCount + 1 } =
      LinkPort.outstandingLeft (State.port s p) := rfl
  rw [takenExpires_eq]
  by_cases hleft : LinkPort.outstandingLeft (State.port s p) = true <;>
    simp [State.raise, State.expired, State.table, hraised, hleft]

/-- R106: a BEACON falls due. -/
theorem tickPart_beacon_due {s : State} {p : Port} (h : (State.port s p).state ≠ .absent)
    (hlimit : 100 ≤ (State.port s p).beaconTimer + 1) :
    State.tickPart s (.beacon p) = State.setPort s p { State.port s p with
      beaconTimer := (State.port s p).beaconTimer + 1 - 100, beaconDue := true } := by
  rw [State.tickPart, if_pos ((expired_beacon s p).mpr ⟨h, hlimit⟩)]
  simp [State.raise, State.expire, State.beaconDue, h]

/-- R113: an outstanding message is given up. -/
theorem tickPart_taken_expires {s : State} {p : Port} (h : takenExpires s.tst.table (State.port s p) = true) :
    State.tickPart s (.taken p) =
      State.count (State.setPort s p (LinkPort.promote (State.port s p))) .linkTimeouts := by
  have hleft : LinkPort.outstandingLeft (State.port s p) = true := by
    rw [takenExpires_eq, Bool.and_eq_true] at h
    exact h.1
  have hpromote : LinkPort.promote { State.port s p with takenCount := (State.port s p).takenCount + 1 } =
      LinkPort.promote (State.port s p) := by
    unfold LinkPort.promote
    cases (State.port s p).deferred <;> rfl
  rw [State.tickPart, if_pos ((expired_taken s p).trans h)]
  simp [State.raise, State.expire, State.takenExpiry, hleft, hpromote]

/-! ### The transmitter (R105) -/

/-- R105, R111: what stays of a port's record when its line falls free. -/
theorem lineFree_keeps (r : LinkPort) :
    (LinkPort.lineFree r).state = r.state ∧ (LinkPort.lineFree r).replies = r.replies ∧
    (LinkPort.lineFree r).beaconDue = r.beaconDue := by
  unfold LinkPort.lineFree
  (repeat' split) <;> exact ⟨rfl, rfl, rfl⟩

/-- R111: a message of the register not yet sent still waits when the line falls free. -/
theorem lineFree_waiting (r : LinkPort) (o : Outstanding) (h : o.phase = .waiting) :
    (LinkPort.lineFree r).register = some o ↔ r.register = some o := by
  unfold LinkPort.lineFree
  cases hr : r.register with
  | none => simp
  | some x =>
    dsimp only
    split
    · rename_i hline
      have hsent : x ≠ o := by
        rintro rfl
        exact nomatch hline.symm.trans h
      have hleft : ({ x with phase := .left } : Outstanding) ≠ o := by
        rintro rfl
        exact nomatch h
      simp [hsent, hleft]
    · simp

/-- R123: an absent port falls silent. -/
theorem transmit_absent {s : State} {p : Port} (h : (State.port s p).state = .absent) :
    State.transmit s p = State.setPort s p (LinkPort.lineFree (State.port s p)) := by
  simp only [State.transmit, (lineFree_keeps _).1, h]

/-- R105: on a present port the transmitter chooses the next message. -/
theorem transmit_present {s : State} {p : Port} (h : (State.port s p).state ≠ .absent) :
    State.transmit s p = State.setPort s p (State.sendNext s (LinkPort.lineFree (State.port s p))) := by
  unfold State.transmit
  dsimp only
  rw [(lineFree_keeps _).1]
  split
  · exact absurd ‹_› h
  · rfl

section

variable (s : State) {r : LinkPort}

/-- R105: a TAKEN reply leaves before all else. -/
theorem sendNext_reply {a : Reply} {rest : List Reply} (h : r.replies = a :: rest) :
    State.sendNext s r =
      { r with replies := rest, line := some (State.outgoing s msgTaken a.tag a.kind 0 0) } := by
  simp only [State.sendNext, h]

/-- R105: with no reply waiting, the register's message leaves. -/
theorem sendNext_register {o : Outstanding} (h : r.replies = []) (hr : r.register = some o)
    (ho : o.phase = .waiting) : State.sendNext s r = { r with
      register := some { o with phase := .onLine },
      line := some
        (State.outgoing s (DataKind.code o.msg.kind) o.tag (State.floodFlags s) o.msg.value o.msg.dur) } := by
  obtain ⟨m, tag, phase⟩ := o
  cases ho
  simp only [State.sendNext, h, hr]

/-- R105, R106: with no reply and no message waiting, a BEACON leaves when one is due. -/
theorem sendNext_beacon (h : r.replies = []) (hr : ∀ o, r.register = some o → o.phase ≠ .waiting) :
    State.sendNext s r = if r.beaconDue then { r with
      beaconDue := false,
      line := some (State.outgoing s msgBeacon 0 (State.floodFlags s) 0 (s.scu.intervalNumber.extractLsb' 0 16)) }
    else r := by
  simp only [State.sendNext, h]
  split
  · exact absurd rfl (hr _ ‹_›)
  · rfl

end

end Sys2Proof.Machine

namespace Sys2Proof.Links

open Machine Safety

/-- Settles O49: the line freed, then the transmitter's choice; and the BEACON's part of a tick. -/
theorem transmitterOrder : Obligations.TransmitterOrder := by
  unfold Obligations.TransmitterOrder
  intro s p r r0 index flood hr hr0 hindex hflood
  have hfree : r0 = LinkPort.lineFree r := by
    rw [hr0]
    unfold LinkPort.lineFree
    rcases r.register with _ | ⟨_, _, _ | _ | _⟩ <;> rfl
  have hwaiting : ∀ o : Outstanding, o.phase = .waiting → (r0.register = some o ↔ r.register = some o) := by
    rw [hfree]
    exact lineFree_waiting r
  obtain ⟨-, hreplies, hdue⟩ := lineFree_keeps r
  rw [← hfree] at hreplies hdue
  subst hindex hflood
  refine ⟨fun habs => ?_, fun hpres => ?_, fun hpres hmem hlimit => ?_, fun hno => ?_⟩
  · subst hr hfree
    exact congrArg Host.Outcome.next (transmit_absent habs)
  · have hexec : exec (.linkTransmit p) s = .next (State.setPort s p (State.sendNext s r0)) := by
      subst hr hfree
      exact congrArg Host.Outcome.next (transmit_present hpres)
    rw [hexec]
    have idle : (∀ o, r.register = some o → o.phase ≠ .waiting) →
        ∀ o, r0.register = some o → o.phase ≠ .waiting := fun hnone o ho hw => hnone o ((hwaiting o hw).mp ho) hw
    refine ⟨fun a rest ha => ?_, fun o hempty ho hw => ?_, fun hempty hnone hb => ?_, fun hempty hnone hb => ?_⟩
    · rw [sendNext_reply s (hreplies.trans ha)]
      exact ⟨_, rfl, good_sealedMsg _, rfl, rfl, rfl, rfl, rfl, rfl⟩
    · rw [sendNext_register s (hreplies.trans hempty) ((hwaiting o hw).mpr ho) hw]
      exact ⟨_, rfl, good_sealedMsg _, rfl, rfl, rfl, rfl, rfl, rfl⟩
    · rw [sendNext_beacon s (hreplies.trans hempty) (idle hnone), if_pos (hdue.trans hb)]
      exact ⟨_, rfl, good_sealedMsg _, rfl, rfl, rfl, rfl, rfl, rfl⟩
    · rw [sendNext_beacon s (hreplies.trans hempty) (idle hnone), if_neg (by rw [hdue, hb]; exact nofun)]
  · subst hr
    obtain ⟨-, -, -, -, -, -, -, -, -, hhanded, -⟩ := (tickPart_beacon p s).frame
    refine congrArg Host.Outcome.next ((tickAhead_expires hmem ?_ hhanded).trans ?_)
    · exact (expired_beacon s p).mpr ⟨hpres, hlimit⟩
    · rw [tickPart_beacon_due hpres hlimit]
  · subst hr
    refine congrArg Host.Outcome.next (tickAhead_unchanged ?_)
    rw [← Bool.not_eq_true, expired_beacon, not_and_or, not_not, Nat.not_le]
    rcases hno with habs | hlimit | hmem
    · exact .inr (.inl habs)
    · exact .inr (.inr hlimit)
    · exact .inl hmem

end Sys2Proof.Links

namespace Sys2Proof.Machine

open Safety

/-! ### Receipt on a link port (R104, R107 to R109, R112) -/

section

variable {s : State} {p : Port}

/-- R104: an absent port discards every message. -/
theorem linkArrival_absent (h : (State.port s p).state = .absent) (m : LinkMsg) : State.linkArrival s p m = s := by
  simp only [State.linkArrival, h]

/-- R104: an absent port discards the bytes of a message broken off. -/
theorem byteTimeout_absent (h : (State.port s p).state = .absent) (n : Nat) : State.byteTimeout s p n = s := by
  simp only [State.byteTimeout, h]

/-- R107: a present port discards and counts a message with a bad check. -/
theorem linkArrival_badCheck (h : (State.port s p).state ≠ .absent) {m : LinkMsg} (hm : LinkMsg.good m = false) :
    State.linkArrival s p m = State.count s .linkRejects := by
  unfold State.linkArrival
  split
  · exact absurd ‹_› h
  · rw [hm, if_pos (by decide)]

/-- R108: a good message from any sender but the one expected is miswired. -/
theorem linkArrival_miswired (h : (State.port s p).state ≠ .absent) {m : LinkMsg} (hm : LinkMsg.good m = true)
    (hsender : expectedSender s.tst.table p ≠ some m.sender.toNat) :
    State.linkArrival s p m = State.miswiredMsg s p := by
  unfold State.linkArrival
  split
  · exact absurd ‹_› h
  · rw [hm, if_neg (by decide), if_pos hsender]

/-- R107: a present port discards and counts the bytes of a message broken off. -/
theorem byteTimeout_broken (h : (State.port s p).state ≠ .absent) {n : Nat} (h0 : 0 < n) (h12 : n < 12) :
    State.byteTimeout s p n = State.count s .linkRejects := by
  unfold State.byteTimeout
  split
  · exact absurd ‹_› h
  · simp [h0, h12, State.countIf]

/-- R108: a miswired message is counted, and the first of a run is told of. -/
theorem miswiredMsg_eq (s : State) (p : Port) : State.miswiredMsg s p =
    if (State.port s p).miswired then State.count s .linkRejects
    else State.notify (State.setPort (State.count s .linkRejects) p { State.port s p with miswired := true })
      (.link p .miswired) := rfl

/-- R109: a DOWN port comes UP with a LINK notice, and an UP port stays so. -/
theorem validMsg_by_state (h : (State.port s p).state ≠ .absent) : State.validMsg s p =
    if (State.port s p).state = .up then State.setPort s p { State.port s p with miswired := false, silence := 0 }
    else State.notify
      (State.setPort s p { State.port s p with miswired := false, silence := 0, state := .up }) (.link p .up) := by
  split
  · exact validMsg_up ‹_›
  · cases hstate : (State.port s p).state with
    | absent => exact absurd hstate h
    | up => exact absurd hstate ‹_›
    | down => simp [State.validMsg, hstate]

theorem port_portUp (s : State) (p : Port) : State.port (State.portUp s p) p =
    { State.port s p with miswired := false, silence := 0, state := .up } := by cases p <;> rfl

/-- R109: a port just found or brought UP is found so by the message that did it. -/
theorem validMsg_portUp (s : State) (p : Port) : State.validMsg (State.portUp s p) p = State.portUp s p := by
  have hport := port_portUp s p
  have hup : (State.port (State.portUp s p) p).state = .up := congrArg LinkPort.state hport
  have hsame : { State.port (State.portUp s p) p with miswired := false, silence := 0 } =
      State.port (State.portUp s p) p := by rw [hport]
  rw [validMsg_up hup, hsame, setPort_port]

/-- R109: a valid message is disposed of as on the port that it has made UP. -/
theorem linkArrival_portUp (h : (State.port s p).state ≠ .absent) {m : LinkMsg} (hm : LinkMsg.good m = true)
    (hsender : expectedSender s.tst.table p = some m.sender.toNat) :
    State.linkArrival s p m = State.linkArrival (State.portUp s p) p m := by
  have hup : (State.port (State.portUp s p) p).state ≠ .absent := by
    rw [port_portUp]
    exact nofun
  have htst : (State.portUp s p).tst = s.tst := by cases p <;> rfl
  rw [linkArrival_valid h hm hsender, validMsg_eq h, linkArrival_valid hup hm (by rw [htst]; exact hsender),
    validMsg_portUp]

end

/-- R109: a BEACON is taken with no more than the port made UP. -/
theorem disposeMsg_beacon (s : State) (p : Port) (f : LinkFields) :
    State.disposeMsg s p (goodMsg msgBeacon f) = s := rfl

/-- R109, R112: a TAKEN is for the outbound register. -/
theorem disposeMsg_taken (s : State) (p : Port) (f : LinkFields) :
    State.disposeMsg s p (goodMsg msgTaken f) = State.takeTaken s p (goodMsg msgTaken f) := rfl

/-- R109: a RELEASE on the down port, a CURTAIL on the up port and an undefined kind are discarded and counted. -/
theorem disposeMsg_untaken {p : Port} {m : LinkMsg} (s : State)
    (h : m.kind = msgRelease ∧ p = .down ∨ m.kind = msgCurtail ∧ p = .up ∨ m.kind = 0 ∨ 4 < m.kind.toNat) :
    State.disposeMsg s p m = State.count s .linkRejects := by
  have hbeacon : m.kind ≠ msgBeacon := by
    intro e
    simp [e] at h
  have htaken : m.kind ≠ msgTaken := by
    intro e
    simp [e] at h
  have hrelease : ¬ (m.kind = msgRelease ∧ p = .up) := by
    rintro ⟨e, rfl⟩
    simp [e] at h
  have hcurtail : ¬ (m.kind = msgCurtail ∧ p = .down) := by
    rintro ⟨e, rfl⟩
    simp [e] at h
  rw [State.disposeMsg, if_neg hbeacon, if_neg htaken, if_neg hrelease, if_neg hcurtail]

/-- R108: a station index is below 8, so the down port of station 7 alone expects no sender. -/
theorem expectedSender_down {t : WordStore} (h : stationIndex t ≤ 7) : expectedSender t .down =
    if stationIndex t = 7 then none else some (stationIndex t + 1) := by
  have hlast : 7 ≤ stationIndex t ↔ stationIndex t = 7 := by omega
  simp only [expectedSender, hlast]

end Sys2Proof.Machine

namespace Sys2Proof.Links

open Machine Safety

/-- Settles O46: a message that comes to an absent port, is refused, is miswired, or is valid. -/
theorem linkReceipt : Obligations.LinkReceipt := by
  unfold Obligations.LinkReceipt
  intro s p m r v hr hv
  subst hr
  have hvalid : (State.port s p).state ≠ .absent → v = State.portUp s p := fun h =>
    hv.trans ((validMsg_by_state h).symm.trans (validMsg_eq h))
  refine ⟨fun habs => ?_, rfl, expectedSender_down, fun f hpres hsender => ?_, fun hpres hbad => ?_,
    fun n hpres h0 h12 => ?_, fun hpres hgood hsender => ?_, fun f hpres hsender => ?_,
    fun kind f hpres hsender hkind => ?_⟩
  · have none_taken (x : LinkMsg) :
        (.next (State.linkArrival s p x) : Host.Outcome Machine.State Fault Refusal) = .next s :=
      congrArg _ (linkArrival_absent habs x)
    refine ⟨none_taken m, none_taken m, fun f => ⟨none_taken _, none_taken _, ?_, ?_, fun kind => none_taken _⟩,
      fun n => congrArg _ (byteTimeout_absent habs n)⟩
    · rintro rfl
      exact none_taken _
    · rintro rfl
      exact none_taken _
  · rw [hvalid hpres]
    have as_up (kind : Byte) : (.next (State.linkArrival s p (goodMsg kind f)) :
        Host.Outcome Machine.State Fault Refusal) = .next (State.linkArrival (State.portUp s p) p (goodMsg kind f)) :=
      congrArg _ (linkArrival_portUp hpres (good_goodMsg _ _) hsender)
    refine ⟨congrArg LinkPort.state (port_portUp s p), as_up msgTaken, ?_, ?_⟩
    · rintro rfl
      exact as_up msgRelease
    · rintro rfl
      exact as_up msgCurtail
  · exact congrArg Host.Outcome.next (linkArrival_badCheck hpres hbad)
  · exact congrArg Host.Outcome.next (byteTimeout_broken hpres h0 h12)
  · exact congrArg Host.Outcome.next ((linkArrival_miswired hpres hgood hsender).trans (miswiredMsg_eq s p))
  · rw [hvalid hpres, ← validMsg_eq hpres]
    exact congrArg Host.Outcome.next
      ((linkArrival_valid hpres (good_goodMsg _ _) hsender).trans (disposeMsg_beacon _ p f))
  · rw [hvalid hpres, ← validMsg_eq hpres]
    exact congrArg Host.Outcome.next
      ((linkArrival_valid hpres (good_goodMsg _ _) hsender).trans (disposeMsg_untaken _ hkind))

end Sys2Proof.Links

namespace Sys2Proof.Machine

open Safety

/-! ### The outbound register (R109 to R113) -/

/-- R112: a TAKEN matches a message that has left, when it names its kind and its tag. -/
theorem matchesTaken_iff (r : LinkPort) (m : LinkMsg) : LinkPort.matchesTaken r m = true ↔
    ∃ o, r.register = some o ∧ o.phase = .left ∧ m.flags = DataKind.code o.msg.kind ∧ m.tag = o.tag := by
  unfold LinkPort.matchesTaken
  cases r.register <;> simp [and_assoc]

/-- R109, R112: emptying the register does not go by the port's state, its silence count or its mark. -/
theorem promote_up (r : LinkPort) : LinkPort.promote { r with miswired := false, silence := 0, state := .up } =
    { LinkPort.promote r with miswired := false, silence := 0, state := .up } := by
  unfold LinkPort.promote
  cases r.deferred <;> rfl

/-- R109: of a port that a message has made UP, its record is its own, and the notice is all else there is. -/
theorem setPort_portUp (s : State) (p : Port) (r : LinkPort) : State.setPort (State.portUp s p) p r =
    State.setPort (if (State.port s p).state = .up then s else State.notify s (.link p .up)) p r := by
  unfold State.portUp
  split <;> cases p <;> rfl

/-- R112: a TAKEN that matches empties the register. -/
theorem takeTaken_matches {s : State} {p : Port} {m : LinkMsg}
    (h : LinkPort.matchesTaken (State.port s p) m = true) :
    State.takeTaken s p m = State.setPort s p (LinkPort.promote (State.port s p)) := if_pos h

/-- R112: any other TAKEN is discarded. -/
theorem takeTaken_other {s : State} {p : Port} {m : LinkMsg}
    (h : ¬ LinkPort.matchesTaken (State.port s p) m = true) : State.takeTaken s p m = s := if_neg h

/-- R113: the TAKEN count gives up an outstanding message that has left, at its limit. -/
theorem takenExpires_iff (t : WordStore) (r : LinkPort) : takenExpires t r = true ↔
    (∃ o, r.register = some o ∧ o.phase = .left) ∧ takenTimeoutLimit t ≤ r.takenCount + 1 := by
  rw [takenExpires_eq, Bool.and_eq_true, decide_eq_true_iff]
  unfold LinkPort.outstandingLeft
  cases r.register <;> simp

/-- R110: the silence count takes an UP port DOWN, at its limit. -/
theorem silenceExpires_iff (t : WordStore) (r : LinkPort) : silenceExpires t r = true ↔
    r.state = .up ∧ silenceLimit t ≤ min 65535 (r.silence + 1) := by
  simp [silenceExpires]

end Sys2Proof.Machine

namespace Sys2Proof.Links

open Machine Safety

section

variable {s : Machine.State} {p : Port} {f : LinkFields} (hp : (State.port s p).state ≠ .absent)
  (hsender : expectedSender s.tst.table p = some f.sender.toNat)

include hp hsender

/-- R109, R112: a TAKEN on a present port finds the port made UP. -/
theorem exec_taken : exec (.taken p f) s = .next (State.takeTaken (State.portUp s p) p (goodMsg msgTaken f)) := by
  refine congrArg Host.Outcome.next ((linkArrival_valid hp (good_goodMsg _ _) hsender).trans ?_)
  rw [disposeMsg_taken, validMsg_eq hp]

/-- R112: a TAKEN that matches the message that has left empties the register. -/
theorem exec_taken_matches (h : LinkPort.matchesTaken (State.port s p) (goodMsg msgTaken f) = true) :
    exec (.taken p f) s = .next (State.setPort
      (if (State.port s p).state = .up then s else State.notify s (.link p .up)) p
      { LinkPort.promote (State.port s p) with miswired := false, silence := 0, state := .up }) := by
  have hport := port_portUp s p
  have hmatch : LinkPort.matchesTaken (State.port (State.portUp s p) p) (goodMsg msgTaken f) = true := by
    rw [hport]
    exact h
  rw [exec_taken hp hsender, takeTaken_matches hmatch, hport, promote_up, setPort_portUp]

/-- R112: any other TAKEN does no more than make its port UP. -/
theorem exec_taken_other (h : ¬ LinkPort.matchesTaken (State.port s p) (goodMsg msgTaken f) = true) :
    exec (.taken p f) s = .next (State.setPort
      (if (State.port s p).state = .up then s else State.notify s (.link p .up)) p
      { State.port s p with miswired := false, silence := 0, state := .up }) := by
  have hport := port_portUp s p
  have hother : ¬ LinkPort.matchesTaken (State.port (State.portUp s p) p) (goodMsg msgTaken f) = true := by
    rw [hport]
    exact h
  rw [exec_taken hp hsender, takeTaken_other hother, ← setPort_portUp, ← hport, setPort_port]

end

/-- Settles O47: the TAKEN, by whether it matches, and the two counts taken ahead, by whether they come to their
limits. -/
theorem outboundRegister : Obligations.OutboundRegister := by
  unfold Obligations.OutboundRegister
  intro s w p r next hr hw hnext
  have hpromote : next = LinkPort.promote r := by
    rw [hnext]
    unfold LinkPort.promote
    cases r.deferred <;> rfl
  subst hr hw hpromote
  refine ⟨fun f o hpres hsender ho hleft hkind htag => ?_, fun f hpres hsender hother => ?_,
    fun o ho hleft hmem hlimit => ?_, fun hno => ?_, fun hup hmem hlimit => ?_, fun hno => ?_⟩
  · exact exec_taken_matches hpres hsender ((matchesTaken_iff _ _).mpr ⟨o, ho, hleft, hkind, htag⟩)
  · refine exec_taken_other hpres hsender fun h => ?_
    obtain ⟨o, ho, hleft, hkind, htag⟩ := (matchesTaken_iff _ _).mp h
    rcases hother o ho with h | h | h
    · exact h hleft
    · exact h hkind
    · exact h htag
  · have hexp : takenExpires s.tst.table (State.port s p) = true :=
      (takenExpires_iff _ _).mpr ⟨⟨o, ho, hleft⟩, hlimit⟩
    obtain ⟨-, -, -, -, -, -, -, -, -, hhanded, -⟩ := (tickPart_taken p s).frame
    refine congrArg Host.Outcome.next ((tickAhead_expires hmem ((expired_taken s p).trans hexp) hhanded).trans ?_)
    rw [tickPart_taken_expires hexp]
  · refine congrArg Host.Outcome.next (tickAhead_unchanged ?_)
    rw [expired_taken, ← Bool.not_eq_true, takenExpires_iff]
    rcases hno with h | h | h
    · exact .inr fun ⟨⟨o, ho, hleft⟩, _⟩ => h o ho hleft
    · exact .inr fun ⟨_, hlimit⟩ => absurd h (Nat.not_lt.mpr hlimit)
    · exact .inl h
  · have hexp : silenceExpires s.tst.table (State.port s p) = true := (silenceExpires_iff _ _).mpr ⟨hup, hlimit⟩
    have hpart := tickPart_silence p s
    have hpres : (State.port s p).state ≠ .absent := by
      rw [hup]
      exact nofun
    rw [silenceTicked, if_neg hpres, if_pos hexp, if_pos hexp, if_pos hexp] at hpart
    obtain ⟨hrpu, hadu, hscu, harrivals, hinflow, hsqe, hspu, hmgu, htst, hhanded, -⟩ := hpart.frame
    have hdrops := (PortPart.ofDrops p s (State.port s p)).reported.station .linkTimeouts
    refine ⟨_, congrArg Host.Outcome.next (tickAhead_expires hmem ((expired_silence s p).trans hexp) hhanded),
      hpart.port_eq, hpart.reported.queue, hpart.reported.lost, hpart.reported.countersKept fun c hc => ?_,
      (hpart.reported.station .linkTimeouts).trans hdrops.symm, fun k hk => hpart.port_ne hk, harrivals, rfl, hinflow,
      hadu, hscu, hsqe, hspu, hrpu, hmgu, htst⟩
    rw [List.mem_singleton] at hc
    simp [onlyCounter, hc]
  · refine congrArg Host.Outcome.next (tickAhead_unchanged ?_)
    rw [expired_silence, ← Bool.not_eq_true, silenceExpires_iff]
    rcases hno with h | h | h
    · exact .inr fun ⟨hup, _⟩ => h hup
    · exact .inr fun ⟨_, hlimit⟩ => absurd h (Nat.not_lt.mpr hlimit)
    · exact .inl h

end Sys2Proof.Links

namespace Sys2Proof.Machine

open Safety

/-! ### The arrival queue as a list (R119, R120) -/

/-- R119, R120: an entry filed in the queue, in place of the one that shares its due interval or in due order, at 64
entries without the head, which matures early. -/
def fileArrival (e : Arrival) (l : List Arrival) : List Arrival :=
  if l.any (fun x => x.due = e.due) then replaceArrival e l
  else insertArrival e (if l.length < 64 then l else l.tail)

/-- R119, R120: what placing an entry does to the queue goes by the queue and the entry alone. -/
theorem arrivals_placeArrival (s : State) (e : Arrival) :
    (State.placeArrival s e).clu.arrivals = fileArrival e s.clu.arrivals := by
  unfold State.placeArrival fileArrival
  split
  · rfl
  · cases s.clu.arrivals with
    | nil => rfl
    | cons x rest =>
      dsimp only
      split <;> rfl

/-- R119: an entry inserted joins those of the queue, wherever its place is. -/
theorem insertArrival_perm (e : Arrival) (l : List Arrival) : (insertArrival e l).Perm (e :: l) := by
  rw [insertArrival_eq]
  refine List.perm_middle.trans (List.Perm.cons e ?_)
  rw [List.takeWhile_append_dropWhile]

/-- R119, R121: what stays of a queue when entries leave it at the head is sound. -/
theorem ArrivalsOk.of_suffix {k l : List Arrival} (h : ArrivalsOk l) (hk : k <:+ l) : ArrivalsOk k :=
  ⟨hk.length_le.trans h.1, h.2.sublist (hk.sublist.map Arrival.due)⟩

/-- R119: an entry that shares its due interval with none may join a queue of fewer than 64. -/
theorem arrivalsOk_insertArrival {e : Arrival} {l : List Arrival} (h : ArrivalsOk l) (hlength : l.length < 64)
    (hnew : ∀ x ∈ l, x.due ≠ e.due) : ArrivalsOk (insertArrival e l) := by
  have hperm := insertArrival_perm e l
  refine ⟨hperm.length_eq.trans_le hlength,
    (hperm.map Arrival.due).nodup_iff.mpr (List.nodup_cons.mpr ⟨?_, h.2⟩)⟩
  intro hmem
  obtain ⟨x, hx, hdue⟩ := List.mem_map.mp hmem
  exact hnew x hx hdue

/-- R119, R120: filing an entry keeps the queue sound. -/
theorem arrivalsOk_fileArrival {l : List Arrival} (h : ArrivalsOk l) (e : Arrival) : ArrivalsOk (fileArrival e l) := by
  obtain ⟨hlength, hdistinct⟩ := h
  unfold fileArrival
  split
  · exact ⟨by rwa [replaceArrival, List.length_map], by rwa [due_replaceArrival]⟩
  · rename_i hany
    have hnew : ∀ x ∈ l, x.due ≠ e.due := by simpa using hany
    split
    · exact arrivalsOk_insertArrival ⟨hlength, hdistinct⟩ ‹_› hnew
    · refine arrivalsOk_insertArrival (ArrivalsOk.of_suffix ⟨hlength, hdistinct⟩ (List.tail_suffix l)) ?_
        fun x hx => hnew x (List.mem_of_mem_tail hx)
      rw [List.length_tail]
      omega

end Sys2Proof.Machine

namespace Sys2Proof.Machine

open Safety

/-! ### What the acts of the blocks do to the arrival queue -/

/-- The arrival queue is part of the view that the bounds go by. -/
theorem arrivals_of_view {s t : State} (h : t.steadyView = s.steadyView) : t.clu.arrivals = s.clu.arrivals :=
  congrArg (fun v => v.clu.arrivals) h

/-! #### The acts a marker leaves owing (log 8) -/

theorem arrivals_takeBoundary (s : State) : (State.takeBoundary s).clu.arrivals = s.clu.arrivals := by
  unfold State.takeBoundary
  split
  · rw [(boundary_frame s).2.1]
  · rfl

theorem arrivals_produce (s : State) (p : Port) (m : Produced) :
    (State.produce s p m).clu.arrivals = s.clu.arrivals := by
  obtain ⟨-, -, -, -, -, -, -, -, -, harrivals, -⟩ := produce_frame s p m
  exact harrivals

theorem arrivals_takeReRating (s : State) : (State.takeReRating s).clu.arrivals = s.clu.arrivals := by
  unfold State.takeReRating State.produceRelease
  split
  · rfl
  · split
    · rfl
    · exact arrivals_produce _ _ _

/-- R121: entries mature from the head of the queue. -/
theorem arrivals_mature (s : State) (n : BitVec 32) : (State.mature s n).clu.arrivals <:+ s.clu.arrivals := by
  unfold State.mature
  dsimp only
  split
  · exact List.suffix_rfl
  · exact List.dropWhile_suffix _

theorem arrivals_takeMaturity (s : State) : (State.takeMaturity s).clu.arrivals <:+ s.clu.arrivals := by
  unfold State.takeMaturity
  split
  · exact List.suffix_rfl
  · exact arrivals_mature _ _

theorem arrivals_repeat_takeMaturity (n : Nat) (s : State) :
    (Nat.repeat State.takeMaturity n s).clu.arrivals <:+ s.clu.arrivals := by
  induction n with
  | zero => exact List.suffix_rfl
  | succ n ih => exact (arrivals_takeMaturity _).trans ih

theorem arrivals_windowTest (s : State) : (State.windowTest s).clu.arrivals = s.clu.arrivals := by
  unfold State.windowTest
  dsimp only
  (repeat' split) <;> rfl

theorem arrivals_takeCurtail (s : State) : (State.takeCurtail s).clu.arrivals = s.clu.arrivals := by
  unfold State.takeCurtail
  split
  · rfl
  · exact arrivals_produce _ _ _

/-- R121: of the acts a marker leaves owing, the maturing alone reaches the queue. -/
theorem arrivals_settle (s : State) : (State.settle s).clu.arrivals <:+ s.clu.arrivals := by
  have hactions (u : State) : (State.takeActions u).clu.arrivals = u.clu.arrivals :=
    arrivals_of_view (steadyView_takeActions u)
  rw [settle_eq, arrivals_of_view (steadyView_takeAges _), State.settleEntries,
    repeat_keeps (fun u : State => u.clu.arrivals) arrivals_takeCurtail,
    repeat_keeps (fun u : State => u.clu.arrivals) hactions, State.settleCounts,
    arrivals_of_view (steadyView_evaluate _), arrivals_windowTest]
  refine (arrivals_repeat_takeMaturity _ _).trans ?_
  rw [repeat_keeps (fun u : State => u.clu.arrivals) arrivals_takeReRating, arrivals_takeBoundary]

/-! #### The local tick (R105, R106, R110, R113, R147) -/

theorem arrivals_tickPart (s : State) (x : TickPart) : (State.tickPart s x).clu.arrivals = s.clu.arrivals := by
  have harrivals {p : Port} {r : LinkPort} {l : List Notice} {k : Nat} (h : PortPart p s (State.tickPart s x) r l k) :
      (State.tickPart s x).clu.arrivals = s.clu.arrivals := by
    obtain ⟨-, -, -, harrivals, -⟩ := h.frame
    exact harrivals
  cases x with
  | gap =>
    simp only [State.tickPart, State.raise, State.expire, State.ringLoss]
    (repeat' split) <;> rfl
  | silence p => exact harrivals (tickPart_silence p s)
  | taken p => exact harrivals (tickPart_taken p s)
  | beacon p => exact harrivals (tickPart_beacon p s)
  | sample i =>
    obtain ⟨-, -, hclu, -⟩ := tickPart_sample_frame s i
    rw [hclu]

theorem arrivals_tickOnce (s : State) (x : TickPart) : (State.tickOnce s x).clu.arrivals = s.clu.arrivals := by
  unfold State.tickOnce
  split
  · rfl
  · exact arrivals_tickPart s x

theorem arrivals_takeAhead (s : State) (x : TickPart) : (State.takeAhead s x).clu.arrivals = s.clu.arrivals := by
  rcases takeAhead_cases s x with ⟨-, e⟩ | ⟨-, e⟩ <;> rw [e]
  exact arrivals_tickPart s x

theorem arrivals_tickAhead (s : State) (x : TickPart) : (State.tickAhead s x).clu.arrivals = s.clu.arrivals := by
  unfold State.tickAhead
  split
  · exact arrivals_takeAhead s x
  · rfl

theorem arrivals_driveInput (s : State) (i : PanelInput) (level sampled : Bool) :
    (State.driveInput s i level sampled).clu.arrivals = s.clu.arrivals := by
  unfold State.driveInput
  dsimp only
  split
  · exact arrivals_takeAhead _ _
  · rfl

theorem arrivals_transmit (s : State) (p : Port) : (State.transmit s p).clu.arrivals = s.clu.arrivals := by
  unfold State.transmit
  dsimp only
  split <;> exact setPort_arrivals _ _ _

theorem arrivals_tick (s : State) : (State.tick s).clu.arrivals <:+ s.clu.arrivals := by
  have hticked (l : List TickPart) (u : State) : (l.foldl State.tickOnce u).clu.arrivals = u.clu.arrivals :=
    foldl_keeps (fun u : State => u.clu.arrivals) arrivals_tickOnce l u
  have hsent (u : State) : (bothPorts.foldl State.transmit u).clu.arrivals = u.clu.arrivals :=
    foldl_keeps (fun u : State => u.clu.arrivals) arrivals_transmit bothPorts u
  simp only [State.tick, State.endTick, hticked, hsent]
  exact arrivals_settle s

/-! #### Installs and completions (R123, R158, R165, R166) -/

theorem arrivals_floodTest (s : State) : (State.floodTest s).clu.arrivals = s.clu.arrivals := by
  rw [(floodTest_frame s).2.2.1]

theorem arrivals_fitPort (s : State) (p : Port) : (State.fitPort s p).clu.arrivals = s.clu.arrivals := by
  unfold State.fitPort
  dsimp only
  split <;> simp [State.dropCounts]

theorem arrivals_installLink (s : State) : (State.installLink s).clu.arrivals = s.clu.arrivals :=
  (arrivals_fitPort _ .down).trans (arrivals_fitPort s .up)

theorem arrivals_handInstall (s : State) (n : Nat) : (State.handInstall s n).clu.arrivals = s.clu.arrivals := by
  unfold State.handInstall
  split
  · exact arrivals_of_view (steadyView_installGate s _)
  · split
    · exact arrivals_floodTest s
    · split
      · exact arrivals_of_view (steadyView_enter s _ _)
      · split
        · exact arrivals_installLink s
        · rfl

theorem arrivals_install (s : State) (n : Nat) (words : WordStore) :
    (State.install s n words).clu.arrivals = s.clu.arrivals := by
  unfold State.install
  dsimp only
  rw [arrivals_handInstall]
  split
  · exact arrivals_windowTest s
  · rfl

theorem arrivals_takeReload (s : State) (x : InstallTaker) :
    (State.takeReload s x).clu.arrivals = s.clu.arrivals := by
  cases x with
  | adu => exact arrivals_of_view (foldl_keeps State.steadyView steadyView_installGate allGates s)
  | scu => exact arrivals_floodTest s
  | sqe => exact arrivals_of_view (steadyView_enter s _ _)
  | clu => exact arrivals_installLink s
  | mgu => rfl

theorem arrivals_completeReload (s : State) (order : List InstallTaker) :
    (State.completeReload s order).clu.arrivals = s.clu.arrivals := by
  unfold State.completeReload
  split
  · split
    · exact (foldl_keeps (fun u : State => u.clu.arrivals) arrivals_takeReload _ _).trans (arrivals_windowTest s)
    · rfl
  · rfl

theorem arrivals_completeStore (s : State) (ok : Bool) :
    (State.completeStore s ok).clu.arrivals = s.clu.arrivals := by
  unfold State.completeStore
  (repeat' split) <;> rfl

theorem arrivals_completeCommission (s : State) (ok : Bool) :
    (State.completeCommission s ok).clu.arrivals = s.clu.arrivals := by
  unfold State.completeCommission
  dsimp only
  (repeat' split) <;> rfl

theorem arrivals_handInput (s : State) (i : PanelInput) (level : Bool) :
    (State.handInput s i level).clu.arrivals = s.clu.arrivals := by
  rw [(handInput_frame s i level).2.1]

theorem arrivals_firstReading (s : State) : (State.firstReading s).clu.arrivals = s.clu.arrivals := by
  have handed_on (u : State) (i : PanelInput) : (State.handIfActive u i).clu.arrivals = u.clu.arrivals := by
    unfold State.handIfActive
    split
    · exact arrivals_handInput u i true
    · rfl
  have read (u : State) (i : PanelInput) : (State.readInput u i).clu.arrivals = u.clu.arrivals := rfl
  rw [State.firstReading, foldl_keeps (fun u : State => u.clu.arrivals) handed_on,
    foldl_keeps (fun u : State => u.clu.arrivals) read]

/-- R104, R122: the CLU starts with an empty queue. -/
theorem arrivals_completeLoad (s : State) : (State.completeLoad s).clu.arrivals <:+ s.clu.arrivals := by
  by_cases hload : s.rpu.state = .load ∧ s.tst.resetAsserted = false
  · rw [completeLoad_eq hload, arrivals_firstReading]
    exact List.nil_suffix
  · rw [State.completeLoad, if_neg hload]

/-! #### Management requests (09) -/

theorem arrivals_command (s : State) (c : Command) (arg : Nat) :
    (State.command s c arg).clu.arrivals = s.clu.arrivals := by
  cases c with
  | engineHold | engineRun | engineStep => exact arrivals_of_view (steadyView_evaluate s)
  | engineRestart => exact arrivals_of_view ((steadyView_enter _ _ _).trans (steadyView_evaluate s))
  | store | reload | lockRaise | lockLower | scheduleStart | floodCancel => rfl
  | commissionLock =>
    simp only [State.command, State.startCommission]
    split <;> rfl
  | gateOut =>
    simp only [State.command]
    split
    · exact arrivals_of_view (steadyView_gateOut s _)
    · rfl
  | gateIn =>
    simp only [State.command]
    split
    · exact arrivals_of_view (steadyView_gateIn s _)
    · rfl
  | floodDeclare => exact arrivals_floodTest { s with scu := { s.scu with declared := true } }
  | curtailRequest => exact arrivals_produce s _ _

theorem arrivals_perform (s : State) (op : Op) (f : Frame) :
    (State.perform s op f).1.clu.arrivals = s.clu.arrivals := by
  cases op with
  | read | openEdit | abandon | capture => rfl
  | readNext | setPointer => exact arrivals_of_view (steadyView_setPointer s _ _)
  | write => exact arrivals_of_view (steadyView_writeWord s _ _)
  | writeNext => exact arrivals_of_view ((steadyView_setPointer _ _ _).trans (steadyView_writeWord s _ _))
  | check =>
    simp only [State.perform, State.checkInstall]
    split
    · exact arrivals_install s _ _
    · rfl
  | command =>
    simp only [State.perform]
    split
    · exact arrivals_command s _ _
    · rfl

theorem arrivals_manage (s : State) (f : Frame) : (State.manage s f).1.clu.arrivals = s.clu.arrivals := by
  unfold State.manage
  split
  · rfl
  · exact arrivals_perform s _ f
  · rfl

/-! #### The ring (01) -/

theorem arrivals_passFrame (s : State) (f : Frame) : (State.passFrame s f).clu.arrivals = s.clu.arrivals :=
  arrivals_of_view (steadyView_passFrame s f)

theorem arrivals_takeStage (s : State) (g : GaugeIx) (level : Word) (bad : Bool) :
    (State.takeStage s g level bad).clu.arrivals = s.clu.arrivals := by
  unfold State.takeStage
  dsimp only
  split
  · rfl
  · split
    · exact arrivals_floodTest _
    · rfl

theorem arrivals_tap (s : State) (binding : Nat) (f : Frame) :
    (State.tap s binding f).clu.arrivals = s.clu.arrivals := by
  unfold State.tap
  split
  · rfl
  · split
    · split
      · split
        · exact arrivals_of_view (steadyView_takePosition s _ _ _)
        · rfl
      · rfl
    · split
      · split
        · split
          · exact arrivals_takeStage s _ _ _
          · rfl
        · rfl
      · rfl

theorem arrivals_takeHeartbeat (s : State) (q : BitVec 4) :
    (State.takeHeartbeat s q).clu.arrivals = s.clu.arrivals := by
  have hwindow := arrivals_windowTest s
  unfold State.takeHeartbeat
  dsimp only
  (repeat' split) <;> exact hwindow

theorem arrivals_slotFrame (s : State) (x : SlotTable) (p : Nat) (f : Frame) :
    (State.slotFrame s x p f).clu.arrivals = s.clu.arrivals := by
  unfold State.slotFrame
  split
  · split
    · exact arrivals_of_view (by simp [State.commandSlot])
    · exact arrivals_of_view (by simp)
  · exact (arrivals_passFrame _ f).trans (arrivals_tap s _ f)
  · unfold State.managementSlot
    split
    · rfl
    · split
      · exact arrivals_manage s f
      · exact arrivals_passFrame s f
  · unfold State.noticeSlot
    split
    · split
      · rfl
      · exact arrivals_passFrame s f
    · exact arrivals_passFrame s f
  · unfold State.heartbeatSlot
    rw [arrivals_passFrame]
    split
    · exact arrivals_takeHeartbeat s _
    · rfl
  · exact arrivals_passFrame s f

theorem arrivals_runFrame (s : State) (x : SlotTable) (f : Frame) :
    (State.runFrame s x f).clu.arrivals = s.clu.arrivals := by
  unfold State.runFrame
  dsimp only
  split
  · exact arrivals_slotFrame _ x _ f
  · exact arrivals_passFrame _ f

/-- R2, R121: a marker has what the last one left owing taken first, a maturing among it. -/
theorem arrivals_takeMarker (s : State) (f : Frame) (late : Bool) :
    (State.takeMarker s f late).clu.arrivals <:+ s.clu.arrivals := by
  have hmarked (u : State) : (State.markerEvent u late).clu.arrivals = u.clu.arrivals := by cases late <;> rfl
  have hopened (u : State) (n : BitVec 32) : (State.openCycle u n).clu.arrivals = u.clu.arrivals := rfl
  have hclosed (u : State) : (State.endLoss (State.closeCycle u)).clu.arrivals = u.clu.arrivals :=
    arrivals_of_view (by simp)
  simp only [State.takeMarker, State.emit, hmarked, hopened, hclosed]
  exact arrivals_settle s

theorem arrivals_ringArrival (s : State) (f : Frame) (late : Bool) :
    (State.ringArrival s f late).clu.arrivals <:+ s.clu.arrivals := by
  unfold State.ringArrival
  split
  · exact List.suffix_rfl
  · split
    · exact arrivals_takeMarker s f late
    · have hcounted : (State.countIf (State.takeAges s) (!Frame.good f) .badCheck).clu.arrivals = s.clu.arrivals :=
        arrivals_of_view (by simp)
      dsimp only
      split
      · rw [arrivals_runFrame, hcounted]
      · rw [arrivals_passFrame, hcounted]

/-! #### The links (06) -/

theorem arrivals_validMsg (s : State) (p : Port) : (State.validMsg s p).clu.arrivals = s.clu.arrivals := by
  unfold State.validMsg
  dsimp only
  split
  · exact setPort_arrivals s p _
  · exact setPort_arrivals s p _

theorem arrivals_placeReply (s : State) (p : Port) (m : LinkMsg) :
    (State.placeReply s p m).clu.arrivals = s.clu.arrivals := by
  rw [placeReply_eq, setPort_arrivals]

/-- R109, R118: of the messages, a RELEASE alone files an arrival entry. -/
theorem arrivals_disposeMsg (s : State) (p : Port) (m : LinkMsg) :
    (State.disposeMsg s p m).clu.arrivals = s.clu.arrivals ∨
      ∃ e, (State.disposeMsg s p m).clu.arrivals = fileArrival e s.clu.arrivals := by
  unfold State.disposeMsg
  split
  · exact .inl rfl
  · split
    · refine .inl ?_
      unfold State.takeTaken
      dsimp only
      split
      · exact setPort_arrivals s p _
      · rfl
    · split
      · exact .inr ⟨_, (arrivals_placeReply _ p m).trans (arrivals_placeArrival s _)⟩
      · split
        · refine .inl ?_
          rw [arrivals_placeReply, setCurtail_clu]
        · exact .inl rfl

theorem arrivals_linkArrival (s : State) (p : Port) (m : LinkMsg) :
    (State.linkArrival s p m).clu.arrivals = s.clu.arrivals ∨
      ∃ e, (State.linkArrival s p m).clu.arrivals = fileArrival e s.clu.arrivals := by
  unfold State.linkArrival
  split
  · exact .inl rfl
  · split
    · exact .inl rfl
    · split
      · refine .inl ?_
        rw [miswiredMsg_eq]
        split
        · rfl
        · exact setPort_arrivals _ _ _
      · rw [← arrivals_validMsg s p]
        exact arrivals_disposeMsg _ p m

theorem arrivals_byteTimeout (s : State) (p : Port) (n : Nat) :
    (State.byteTimeout s p n).clu.arrivals = s.clu.arrivals := by
  unfold State.byteTimeout
  split
  · rfl
  · rw [State.countIf_clu]

/-! #### Every command -/

open Laws in
/-- R118 to R121: what any command can do to the arrival queue: entries leave it at the head, or one is filed. -/
theorem arrivals_exec {c : Instr} {s t : State} (hx : exec c s = .next t) :
    t.clu.arrivals <:+ s.clu.arrivals ∨ ∃ e, t.clu.arrivals = fileArrival e s.clu.arrivals := by
  have kept {u : State} (h : u.clu.arrivals = s.clu.arrivals) :
      u.clu.arrivals <:+ s.clu.arrivals ∨ ∃ e, u.clu.arrivals = fileArrival e s.clu.arrivals :=
    .inl (h ▸ List.suffix_rfl)
  cases hc : Families.ringFrame c with
  | some f =>
    obtain ⟨late, e⟩ := exec_ringFrame hc s
    cases e.symm.trans hx
    exact .inl (arrivals_ringArrival s f late)
  | none =>
    cases c with
    | powerOn => cases hx; exact .inl List.nil_suffix
    | resetNAssert short =>
      cases hx
      unfold State.assertReset
      split
      · exact .inl List.nil_suffix
      · exact kept rfl
    | resetNRelease => cases hx; exact kept rfl
    | startUpLoadComplete => cases hx; exact .inl (arrivals_completeLoad s)
    | ringLoss | beaconDue p | silenceExpiry p | takenTimeout p => cases hx; exact kept (arrivals_tickAhead s _)
    | intervalBoundary => cases hx; exact kept (arrivals_takeBoundary s)
    | reRating => cases hx; exact kept (arrivals_takeReRating s)
    | arrivalMaturity => cases hx; exact .inl (arrivals_takeMaturity s)
    | supervisionWindowExpiry => cases hx; exact kept (arrivals_windowTest s)
    | engineEvaluation => cases hx; exact kept (arrivals_of_view (steadyView_evaluate s))
    | actionListApply => cases hx; exact kept (arrivals_of_view (steadyView_takeActions s))
    | curtailUp => cases hx; exact kept (arrivals_takeCurtail s)
    | storeComplete ok => cases hx; exact kept (arrivals_completeStore s ok)
    | reloadComplete order => cases hx; exact kept (arrivals_completeReload s order)
    | commissionLockComplete ok => cases hx; exact kept (arrivals_completeCommission s ok)
    | panelInputChange i level sampled => cases hx; exact kept (arrivals_driveInput s i level sampled)
    | linkTransmit p => cases hx; exact kept (arrivals_transmit s p)
    | linkByteTimeout p n => cases hx; exact kept (arrivals_byteTimeout s p n)
    | beacon p m | taken p m | release m | curtail m | wrongDirectionMessage p k m | badCheckMessage p m
    | miswiredMessage p m =>
      cases hx
      exact (arrivals_linkArrival s _ _).elim kept .inr
    | _ => cases hc

/-- R118 to R121: what a step can do to the arrival queue. -/
theorem arrivals_step {s t : State} (hstep : step s = .next t) :
    t.clu.arrivals <:+ s.clu.arrivals ∨ ∃ e, t.clu.arrivals = fileArrival e s.clu.arrivals := by
  unfold step at hstep
  split at hstep
  · rw [← Host.Outcome.next.inj hstep]
    exact .inl (arrivals_tick s)
  · rename_i c rest _
    exact arrivals_exec (s := { s with pending := rest }) hstep

end Sys2Proof.Machine

namespace Sys2Proof.Links

open Machine Safety

/-- Settles O6: entries that leave the queue, and one that is filed, keep it sound. -/
theorem stepKeepsArrivalQueue : Obligations.StepKeepsArrivalQueue := by
  unfold Obligations.StepKeepsArrivalQueue
  intro s t hsound hstep
  rcases arrivals_step hstep with hleft | ⟨e, hfiled⟩
  · exact ArrivalsOk.of_suffix hsound.arrivals hleft
  · rw [hfiled]
    exact arrivalsOk_fileArrival hsound.arrivals e

end Sys2Proof.Links

namespace Sys2Proof.Machine

open Safety

/-! ### The transition conditions (R125, 07 Table 7-2) -/

/-- What an index says of the unit it names; an index above 5 names none. -/
theorem namedUnit_iff {f : UnitIx → Bool} {P : UnitIx → Prop} (hf : ∀ u, f u = true ↔ P u) (i : Nat) :
    (if h : i < 6 then f ⟨i, h⟩ else false) = true ↔ ∃ u : UnitIx, i = u.val ∧ P u := by
  split
  · rename_i h
    rw [hf]
    exact ⟨fun hp => ⟨⟨i, h⟩, rfl, hp⟩, fun ⟨u, hu, hp⟩ => by subst hu; exact hp⟩
  · rename_i h
    exact ⟨nofun, fun ⟨u, hu, _⟩ => absurd (hu ▸ u.isLt) h⟩

/-- R147, R148: a panel input read as inactive. -/
theorem inputInactive_iff (s : State) (i : PanelInput) : (!State.inputActive s i) = true ↔ ¬ LineActive s i := by
  rw [Bool.not_eq_true', ← Bool.not_eq_true, inputActive_iff]

/-- 11 Table 11-7: the words of transition `n`. -/
theorem transitionAt_eq (t : WordStore) (n : Nat) : transitionAt t n =
    { src := WordStore.nat t (0x543 + 3 * n) / 256, dst := WordStore.nat t (0x543 + 3 * n) % 256,
      cond := conditionOf (WordStore.nat t (0x544 + 3 * n) / 256),
      index := WordStore.nat t (0x544 + 3 * n) % 256, value := WordStore.nat t (0x545 + 3 * n) } := by
  simp only [transitionAt, engineWord, ← Nat.add_assoc]

/-- R125: a transition is true when 07 Table 7-2 says so for the code of its condition. -/
theorem holds_iff (s : State) {x : Transition} {code : Nat} (hcond : x.cond = conditionOf code) :
    State.holds s x = true ↔ ConditionTrue s code x.index x.value := by
  unfold State.holds
  rw [hcond]
  match code with
  | 0 => simpa [ConditionTrue, conditionOf] using namedUnit_iff (fun u => inputActive_iff s (.trip u)) x.index
  | 1 => simpa [ConditionTrue, conditionOf] using namedUnit_iff (fun u => inputInactive_iff s (.trip u)) x.index
  | 2 | 3 | 7 | 9 | 10 => simp [ConditionTrue, conditionOf]
  | 4 | 5 =>
    simp only [ConditionTrue, conditionOf, ← freshLevel_eq_freshIn]
    cases State.freshLevel s x.index <;> simp
  | 6 =>
    simp only [ConditionTrue, conditionOf]
    cases s.spu.sup <;> simp
  | 8 =>
    simp only [ConditionTrue, conditionOf]
    by_cases hup : x.index = 0 <;> simp [hup, State.port]
  | _ + 11 => simp [ConditionTrue, conditionOf]

/-! ### The transition an evaluation takes (R128) -/

/-- R128: no transition is taken when none that leaves the current state is true. -/
theorem firstTransition_eq_none_iff (s : State) : State.firstTransition s = none ↔
    ∀ k, k < min 24 (transitionCount s.table) → (transitionAt s.table k).src = s.sqe.current →
      State.holds s (transitionAt s.table k) = false := by
  simp [State.firstTransition]

/-- R128: the transition taken leaves the current state and is true, and none before it is such a one. -/
theorem firstTransition_eq_some_iff (s : State) (n : Nat) : State.firstTransition s = some n ↔
    (transitionAt s.table n).src = s.sqe.current ∧ State.holds s (transitionAt s.table n) = true ∧
      n < min 24 (transitionCount s.table) ∧ ∀ k, k < n → (transitionAt s.table k).src = s.sqe.current →
        State.holds s (transitionAt s.table k) = false := by
  rw [State.firstTransition, List.find?_range_eq_some]
  simp [and_assoc, imp_iff_not_or]

/-- R128, R133: with no evaluation due, or no transition true, nothing is entered. -/
theorem takeTransition_none {s : State}
    (h : (s.sqe.held = true ∧ s.sqe.stepPending = false) ∨ s.sqe.dwell < minDwell s.table s.sqe.current ∨
      State.firstTransition s = none) : State.takeTransition s = s := by
  unfold State.takeTransition
  split
  · rename_i hdue
    obtain ⟨hrun, hdwell⟩ := hdue
    rcases h with ⟨hheld, hstep⟩ | hshort | hnone
    · simp [hheld, hstep] at hrun
    · exact absurd hdwell (Nat.not_le.mpr hshort)
    · rw [hnone]
  · rfl

/-- R128, R130: an evaluation that is due enters the state of the first transition. -/
theorem takeTransition_some {s : State} {n : Nat} (hrun : s.sqe.held = false ∨ s.sqe.stepPending = true)
    (hdwell : minDwell s.table s.sqe.current ≤ s.sqe.dwell) (hfirst : State.firstTransition s = some n) :
    State.takeTransition s = State.enter s (transitionAt s.table n).dst (.transition n) := by
  rw [State.takeTransition, if_pos ⟨hrun, hdwell⟩, hfirst]

/-- R130: an entry spends no step. -/
theorem takeTransition_stepPending (s : State) :
    (State.takeTransition s).sqe.stepPending = s.sqe.stepPending := by
  unfold State.takeTransition
  split
  · split
    · rename_i n _
      obtain ⟨-, -, -, -, -, -, -, -, hsqe⟩ := enter_frame s (transitionAt s.table n).dst (.transition n)
      rw [hsqe]
      rfl
    · rfl
  · rfl

/-- R128: the marker's evaluation is no longer owed. -/
def State.evaluationTaken (s : State) : State := { s with handed := { s.handed with evaluation := false } }

/-- R136: a pending step is spent, and the engine held again. -/
def Sqe.stepSpent (q : Sqe) : Sqe :=
  { q with stepPending := false, held := if q.stepPending then true else q.held }

theorem Sqe.stepSpent_eq_self {q : Sqe} (h : q.stepPending = false) : Sqe.stepSpent q = q := by
  cases q
  cases h
  rfl

/-- R128, R136: an evaluation takes its transition and spends a pending step. -/
theorem evaluate_owed {s : State} (h : s.handed.evaluation = true) : State.evaluate s =
    { State.takeTransition (State.evaluationTaken s) with
      sqe := Sqe.stepSpent (State.takeTransition (State.evaluationTaken s)).sqe } := by
  have hstep : (State.takeTransition (State.evaluationTaken s)).sqe.stepPending = s.sqe.stepPending :=
    takeTransition_stepPending (State.evaluationTaken s)
  rw [evaluate_eq h]
  cases hpending : s.sqe.stepPending with
  | true =>
    rw [Sqe.stepSpent, hstep.trans hpending]
    rfl
  | false =>
    rw [Sqe.stepSpent_eq_self (hstep.trans hpending)]
    rfl

/-- R128: with no evaluation owed there is nothing to do. -/
theorem evaluate_unowed {s : State} (h : s.handed.evaluation = false) : State.evaluate s = s := by
  simp [State.evaluate, h]

/-! ### What an entry reports (R130, R133) -/

/-- R130: an entry hands the NCU one ENGINE notice and is counted once. -/
theorem enter_reported (s : State) (dst : Nat) (cause : EntryCause) :
    Ncu.Reported s.ncu (State.enter s dst cause).ncu [.engine s.sqe.current dst cause]
      (onlyCounter .engineTransitions 1) := by
  rw [State.enter, handCurtail_eq]
  simpa [State.handActions] using (reported_notify s.ncu (.engine s.sqe.current dst cause)).trans
    (reported_count (State.notify { s with sqe := Sqe.entered s.sqe s.table dst cause }
      (.engine s.sqe.current dst cause)) .engineTransitions)

/-- R130, R171: what an entry does to the notices and the counters. -/
theorem enter_notices (s : State) (dst : Nat) (cause : EntryCause) :
    (State.enter s dst cause).ncu.queue = (Ncu.notify s.ncu (.engine s.sqe.current dst cause)).queue ∧
    (State.enter s dst cause).ncu.lost = (Ncu.notify s.ncu (.engine s.sqe.current dst cause)).lost ∧
    CountersKept [.engineTransitions] s.ncu (State.enter s dst cause).ncu ∧
    State.counter (State.enter s dst cause) .engineTransitions =
      min 65535 (State.counter s .engineTransitions + 1) := by
  have hreported := enter_reported s dst cause
  exact ⟨hreported.queue, hreported.lost,
    hreported.countersKept fun c hc => if_neg (List.mem_singleton.not.mp hc), hreported.station _⟩

end Sys2Proof.Machine

namespace Sys2Proof.Engine

open Machine Safety

/-- Settles O24: the conditions code by code, and the evaluation by whether it is due and finds a true transition. -/
theorem evaluationTakesFirstTransition : Obligations.EvaluationTakesFirstTransition := by
  unfold Obligations.EvaluationTakesFirstTransition
  refine ⟨fun s n _ => ?_, fun s howed => ⟨fun hno => ?_, fun n hrun hdwell hn hsrc hholds hbefore => ?_⟩⟩
  · rw [transitionAt_eq]
    exact holds_iff s rfl
  · refine congrArg Host.Outcome.next ?_
    rw [evaluate_owed howed, takeTransition_none
      (hno.imp_right (Or.imp_right (firstTransition_eq_none_iff (State.evaluationTaken s)).mpr))]
    rfl
  · refine ⟨_, congrArg Host.Outcome.next (evaluate_owed howed), ?_⟩
    rw [takeTransition_some (s := State.evaluationTaken s) hrun hdwell
      ((firstTransition_eq_some_iff _ n).mpr ⟨hsrc, hholds, hn, hbefore⟩)]
    obtain ⟨hrpu, hadu, hscu, hclu, hspu, hmgu, htst, -, hsqe⟩ :=
      enter_frame (State.evaluationTaken s) (transitionAt s.tst.table n).dst (.transition n)
    obtain ⟨hqueue, hlost, hkept, hcounter⟩ :=
      enter_notices (State.evaluationTaken s) (transitionAt s.tst.table n).dst (.transition n)
    exact ⟨congrArg Sqe.stepSpent hsqe, hqueue, hlost, hkept, hcounter, enter_handed _ _ _, hadu, hscu, hclu, hspu,
      hrpu, hmgu, htst⟩

end Sys2Proof.Engine

namespace Sys2Proof.Engine

open Machine Safety

section

variable {s : Machine.State} (q : CommandRequest) (hslot : AtManagement s)

include hslot

/-- R134, R159: ENGINE_HOLD carried out, at every lock level. -/
theorem exec_engineHold : exec (.engineHold q) s =
    .next (State.emit (State.engineHold (State.slotTaken s)) (commandReply 0 q)) := by
  have hlock : Mgu.forbidsCommand s.mgu .engineHold = false := by
    unfold Mgu.forbidsCommand
    split <;> rfl
  exact congrArg Host.Outcome.next
    (ringArrival_commandRequest hslot q (c := .engineHold) rfl rfl hlock (.inr ⟨nofun, nofun⟩) (.inr rfl) false)

/-- R135: ENGINE_RUN carried out. -/
theorem exec_engineRun (hlock : s.mgu.lock ≠ .full) : exec (.engineRun q) s =
    .next (State.emit (State.engineRun (State.slotTaken s)) (commandReply 1 q)) :=
  congrArg Host.Outcome.next (ringArrival_accepted hslot hlock (c := .engineRun) rfl rfl nofun nofun rfl)

/-- R136, R160: ENGINE_STEP carried out. -/
theorem exec_engineStep (hlock : s.mgu.lock ≠ .full) (hmaint : State.inputActive s .maintEnable = true) :
    exec (.engineStep q) s = .next (State.emit (State.engineStep (State.slotTaken s)) (commandReply 2 q)) :=
  congrArg Host.Outcome.next (ringArrival_commandRequest hslot q (c := .engineStep) rfl rfl
    (forbidsCommand_below_full hlock nofun) (.inl hmaint) (.inr rfl) false)

/-- R137: ENGINE_RESTART carried out. -/
theorem exec_engineRestart (hlock : s.mgu.lock ≠ .full) : exec (.engineRestart q) s =
    .next (State.emit (State.engineRestart (State.slotTaken s)) (commandReply 3 q)) :=
  congrArg Host.Outcome.next (ringArrival_accepted hslot hlock (c := .engineRestart) rfl rfl nofun nofun rfl)

end

/-- Settles O57: each command passes its tests and, with no evaluation owed, acts at once; a restart is an entry to the
initial state. -/
theorem engineRunControl : Obligations.EngineRunControl := by
  unfold Obligations.EngineRunControl
  intro s q hslot howed
  have hnothing : State.evaluate (State.slotTaken s) = State.slotTaken s := evaluate_unowed howed
  refine ⟨?_, fun hlock => ?_, fun hlock hmaint => ?_, fun hlock => ?_⟩
  · rw [exec_engineHold q hslot, State.engineHold, hnothing]
    rfl
  · rw [exec_engineRun q hslot hlock, State.engineRun, hnothing]
    rfl
  · rw [exec_engineStep q hslot hlock hmaint, State.engineStep, hnothing]
    rfl
  · refine ⟨_, initialState s.tst.table, exec_engineRestart q hslot hlock, rfl, ?_⟩
    rw [State.engineRestart, hnothing, State.restart]
    obtain ⟨hrpu, hadu, hscu, hclu, hspu, hmgu, htst, -, hsqe⟩ :=
      enter_frame (State.slotTaken s) (initialState s.tst.table) .restart
    obtain ⟨hqueue, hlost, hkept, hcounter⟩ :=
      enter_notices (State.slotTaken s) (initialState s.tst.table) .restart
    exact ⟨congrArg (fun u : Rpu => { u with ringOut := some (commandReply 3 q) }) hrpu, hsqe, hqueue, hlost, hkept,
      hcounter, enter_handed _ _ _, hadu, hscu, hclu, hspu, hmgu, htst⟩

end Sys2Proof.Engine

namespace Sys2Proof.Machine

open Safety

/-! ### The supervision window (R145) -/

/-- R145: with no comparison owed, the window test changes nothing. -/
theorem windowTest_unowed {s : State} (h : s.handed.window = false) : State.windowTest s = s := by
  simp [State.windowTest, h]

/-- R145: the comparison of a marker within the window is only spent. -/
theorem windowTest_within {s : State} (h : s.handed.window = true)
    (hw : s.spu.window < supervisionWindow s.tst.table) :
    State.windowTest s = { s with handed := { s.handed with window := false } } := by
  simp [State.windowTest, h, Nat.not_le.mpr hw]

/-- R145: the window over in PRESENT: the dispatch station is LOST. -/
theorem windowTest_lost {s : State} (h : s.handed.window = true)
    (hw : supervisionWindow s.tst.table ≤ s.spu.window) (hp : s.spu.sup = .present) :
    State.windowTest s = State.notify { s with
      spu := { s.spu with sup := .lost, run := false }, handed := { s.handed with window := false } }
      (.dispatch false) := by
  simp [State.windowTest, h, hw, hp]

/-- R145: the window over in ABSENT or LOST: a run ends, and without one the comparison is only spent. -/
theorem windowTest_away {s : State} (h : s.handed.window = true)
    (hw : supervisionWindow s.tst.table ≤ s.spu.window) (hp : s.spu.sup ≠ .present) :
    State.windowTest s = { s with
      spu := if s.spu.run then { s.spu with run := false, lastSeq := none } else s.spu,
      handed := { s.handed with window := false } } := by
  unfold State.windowTest
  dsimp only
  rw [if_pos h, if_pos hw]
  split
  · exact absurd ‹_› hp
  · split <;> rfl

/-! ### Heartbeats (R143, R144) -/

/-- R143, R144: a sequence follows the last one when the last is the one before it, modulo 16. -/
theorem followsLast_iff (last : Option (BitVec 4)) (q : BitVec 4) :
    followsLast last q = true ↔ last = some (q - 1) := by
  cases last with
  | none => simp [followsLast]
  | some l => rw [followsLast, beq_iff_eq, Option.some.injEq, eq_sub_iff_add_eq, eq_comm]

/-- R10: a good heartbeat in the HEARTBEAT slot is taken by the SPU and passes. -/
theorem ringArrival_heartbeat {s : State} {x : SlotTable} (h : AtSlot s x .heartbeat) (f : FrameFields) (late : Bool) :
    State.ringArrival s (goodFrame kindHeartbeat f) late =
      State.emit (State.takeHeartbeat (State.slotTaken s) (f.valueA.extractLsb' 0 4)) (goodFrame kindHeartbeat f) := by
  obtain ⟨-, -, -, hrole, -⟩ := id h
  rw [ringArrival_slot h (isMarker_goodFrame _ _)]
  simp [State.slotFrame, hrole, State.heartbeatSlot, State.passFrame, State.slotTaken]

section

variable {s : State} (hw : s.handed.window = false) {q : BitVec 4}

include hw

/-- R143: in PRESENT, in sequence. -/
theorem takeHeartbeat_valid (hp : s.spu.sup = .present) (hq : s.spu.lastSeq = some (q - 1)) :
    State.takeHeartbeat s q = { s with spu := { s.spu with lastSeq := some q, window := 0 } } := by
  simp only [State.takeHeartbeat, windowTest_unowed hw, hp, (followsLast_iff _ _).mpr hq, if_true]

/-- R143: in PRESENT, out of sequence. -/
theorem takeHeartbeat_invalid (hp : s.spu.sup = .present) (hq : s.spu.lastSeq ≠ some (q - 1)) :
    State.takeHeartbeat s q = State.count { s with spu := { s.spu with lastSeq := some q } } .heartbeatErrors := by
  simp only [State.takeHeartbeat, windowTest_unowed hw, hp, if_neg (mt (followsLast_iff _ _).mp hq)]

/-- R144: in ABSENT or LOST, by the run and the sequence. -/
theorem takeHeartbeat_away (hp : s.spu.sup ≠ .present) : State.takeHeartbeat s q =
    if s.spu.run then
      if s.spu.lastSeq = some (q - 1) then
        State.notify { s with spu := { s.spu with sup := .present, run := false, lastSeq := some q, window := 0 } }
          (.dispatch true)
      else State.count { s with spu := { s.spu with lastSeq := some q, window := 0 } } .heartbeatErrors
    else { s with spu := { s.spu with run := true, lastSeq := some q, window := 0 } } := by
  cases hs : s.spu.sup with
  | present => exact absurd hs hp
  | absent | lost => simp only [State.takeHeartbeat, windowTest_unowed hw, hs, ← followsLast_iff]

end

end Sys2Proof.Machine

namespace Sys2Proof.Supervision

open Machine Safety

/-- Settles O23: the comparison by the window count, the supervision state and the run. -/
theorem supervisionWindowExpires : Obligations.SupervisionWindowExpires := by
  unfold Obligations.SupervisionWindowExpires
  intro s hwin
  have hexec : exec .supervisionWindowExpiry s = .next (State.windowTest s) := rfl
  rw [hexec]
  refine ⟨fun hp hover => ?_, fun hp hrun hover => ?_, fun h => ?_⟩
  · rw [windowTest_lost hwin hover hp]
    exact ⟨_, rfl, rfl, rfl⟩
  · rw [windowTest_away hwin hover hp, if_pos hrun]
  · rcases Nat.lt_or_ge s.spu.window (supervisionWindow s.tst.table) with hlt | hover
    · rw [windowTest_within hwin hlt]
    · obtain ⟨hp, hrun⟩ := h.resolve_left (Nat.not_lt.mpr hover)
      rw [windowTest_away hwin hover hp, if_neg (by rw [hrun]; decide)]

/-- A HEARTBEAT in its slot, by what the SPU makes of it. -/
theorem exec_heartbeat {s : Machine.State} {x : SlotTable} (h : AtSlot s x .heartbeat) (f : FrameFields) :
    exec (.heartbeat f) s = .next (State.emit (State.takeHeartbeat (State.slotTaken s) (f.valueA.extractLsb' 0 4))
      (goodFrame kindHeartbeat f)) :=
  congrArg Host.Outcome.next (ringArrival_heartbeat h f false)

/-- Settles O41: in PRESENT, by whether the heartbeat's sequence follows the last. -/
theorem heartbeatInPresent : Obligations.HeartbeatInPresent := by
  unfold Obligations.HeartbeatInPresent
  intro s x f hslot hw hp
  rw [exec_heartbeat hslot]
  refine ⟨fun l hl hseq => ?_, fun hseq => ?_⟩
  · have hlast : s.spu.lastSeq = some (f.valueA.extractLsb' 0 4 - 1) := by
      rw [hl, hseq, BitVec.add_sub_cancel]
    rw [takeHeartbeat_valid (s := State.slotTaken s) hw hp hlast]
    rfl
  · rw [takeHeartbeat_invalid (s := State.slotTaken s) hw hp hseq]
    rfl

/-- Settles O42: in ABSENT or LOST, by the run and by whether the heartbeat's sequence follows the last. -/
theorem heartbeatWhileNotPresent : Obligations.HeartbeatWhileNotPresent := by
  unfold Obligations.HeartbeatWhileNotPresent
  rintro s x f q hslot hw hp rfl
  rw [exec_heartbeat hslot, takeHeartbeat_away (s := State.slotTaken s) hw hp]
  refine ⟨fun hrun => ?_, fun hrun hseq => ?_, fun hrun hseq => ?_⟩
  · rw [if_neg (by exact Bool.eq_false_iff.mp hrun)]
    rfl
  · rw [if_pos (by exact hrun), if_pos (by exact hseq)]
    exact ⟨_, rfl, rfl, rfl⟩
  · rw [if_pos (by exact hrun), if_neg (by exact hseq)]
    rfl

end Sys2Proof.Supervision

namespace Sys2Proof.Machine

open Safety

/-! ### Ticks in succession (00 section 5.2) -/

/-- A tick keeps the Table Store, RESET_N with it, and the queue; no part of the next tick has been taken after it. -/
theorem tick_frame (s : State) :
    (State.tick s).tst = s.tst ∧ (State.tick s).pending = s.pending ∧ (State.tick s).handed.ticked = [] := by
  obtain ⟨-, -, htst, hpend, -⟩ := settle_frame s
  unfold State.tick
  dsimp only
  generalize State.settle s = u at *
  obtain ⟨_, hw, -⟩ := tickParts_spec u rfl
  generalize tickParts.foldl State.tickOnce u = w at *
  have hxtst := foldl_keeps State.tst (fun v p => (transmit_frame v p).2.2.1) bothPorts w
  have hxpend := foldl_keeps State.pending (fun v p => (transmit_frame v p).2.2.2.2) bothPorts w
  generalize bothPorts.foldl State.transmit w = x at *
  have hytst := foldl_keeps State.tst (fun v i => (tickOnce_sample_frame v i).2.1) allInputs x
  have hypend := (samples_frame allInputs x).2
  rw [← List.foldl_map (f := TickPart.sample) (g := State.tickOnce)] at hytst
  have hparts : sampleParts = allInputs.map TickPart.sample := rfl
  rw [hparts]
  generalize (allInputs.map TickPart.sample).foldl State.tickOnce x = y at *
  have hwtst : w.tst = u.tst := (congrArg State.tst hw).trans rfl
  have hwpend : w.pending = u.pending := (congrArg State.pending hw).trans rfl
  exact ⟨((hytst.trans hxtst).trans hwtst).trans htst, ((hypend.trans hxpend).trans hwpend).trans hpend, rfl⟩

/-- Log 2: with no command waiting, a step is a tick. -/
theorem step_idle {s : State} (h : s.pending = []) : step s = .next (State.tick s) := by
  unfold step
  rw [h]

/-- R147: every input's record after a tick, the last part of `idleStepIsOneTick`. -/
theorem panel_tick {s : State} (h : s.pending = []) (i : PanelInput) :
    State.panel (State.tick s) i = panelTicked s i := by
  obtain ⟨_, _, _, _, t, hstep, -, -, -, -, -, -, -, -, -, -, -, -, -, -, -, -, -, -, -, -, -, -, -, -, -, hpanel⟩ :=
    GateRing.idleStepIsOneTick s h
  obtain rfl : State.tick s = t := Host.Outcome.next.inj ((step_idle h).symm.trans hstep)
  exact hpanel i

/-- R147, R148: the next step is a tick that samples every input: no command waits, none has taken a sample ahead, and
RESET_N is not asserted. -/
structure State.Sampling (s : State) : Prop where
  idle : s.pending = []
  fresh : s.handed.ticked = []
  running : s.tst.resetAsserted = false

/-- R147: after such a tick the next step is one again. -/
theorem State.Sampling.tick {s : State} (h : State.Sampling s) : State.Sampling (State.tick s) := by
  obtain ⟨htst, hpend, hticked⟩ := tick_frame s
  exact ⟨hpend.trans h.idle, hticked, by rw [htst, h.running]⟩

/-- R147: such a tick samples every input. -/
theorem State.Sampling.panel_tick {s : State} (h : State.Sampling s) (i : PanelInput) :
    State.panel (State.tick s) i = panelSampled (State.panel s i) := by
  rw [Machine.panel_tick h.idle, panelTicked, h.fresh, h.running]
  simp

/-! ### A panel input's sample ahead of its tick (R147, logs 2 and 10) -/

/-- The state with the sample of input `i` marked as taken for the tick in progress (log 2). -/
def State.markSample (s : State) (i : PanelInput) : State :=
  { s with handed := { s.handed with ticked := s.handed.ticked ++ [.sample i] } }

/-- R147, R148: the state once a change of input `i` is taken: filtered, and outside LOAD handed to its readers. -/
def State.changeInput (s : State) (i : PanelInput) (level : Bool) : State :=
  if s.rpu.state = .load then State.setPanel s i ⟨level, level, 0⟩
  else State.handInput (State.setPanel s i ⟨level, level, 0⟩) i level

/-- R147: the fourth sample in succession at the other level. -/
theorem panelSampled_fourth {r : PanelLine} {level : Bool} (hl : level ≠ r.level) (hc : 4 ≤ r.count + 1) :
    panelSampled { r with pin := level } = ⟨level, level, 0⟩ := by
  simp [panelSampled, hl, Nat.not_lt.mpr hc]

section

variable {s : State} {i : PanelInput} {level sampled : Bool}

/-- R147, R148, log 10: a pin's level with no sample ahead of the tick. -/
theorem driveInput_pin (h : sampled = false ∨ s.tst.resetAsserted = true ∨ TickPart.sample i ∈ s.handed.ticked) :
    State.driveInput s i level sampled = State.setPanel s i { State.panel s i with pin := level } := by
  rcases h with h | h | h
  · simp [State.driveInput, h]
  · simp [State.driveInput, h]
  · simp [State.driveInput, State.takeAhead, h]

variable (hr : s.tst.resetAsserted = false) (hn : TickPart.sample i ∉ s.handed.ticked)

include hr hn

/-- R147: a pin's level with its sample: the sample's part of the tick, marked as taken. -/
theorem driveInput_sampled : State.driveInput s i level true = State.markSample
    (State.tickPart (State.setPanel s i { State.panel s i with pin := level }) (.sample i)) i := by
  simp [State.driveInput, State.takeAhead, hr, hn, State.markSample]

/-- R147: a sample that is not the fourth in succession at the other level. -/
theorem driveInput_steady (h : level = (State.panel s i).level ∨ (State.panel s i).count + 1 < 4) :
    State.driveInput s i level true = State.markSample
      (State.setPanel s i (panelSampled { State.panel s i with pin := level })) i := by
  rw [driveInput_sampled hr hn]
  rcases tickPart_sample (State.setPanel s i { State.panel s i with pin := level }) i with
    ⟨ha, -⟩ | ⟨-, -, e⟩ | ⟨-, hpin, hcount, -⟩
  · simp [hr] at ha
  · rw [e]; simp
  · simp only [panel_setPanel_self] at hpin hcount
    rcases h with h | h
    · exact absurd h hpin
    · omega

/-- R147, R148: the fourth sample in succession at the other level: the change is taken. -/
theorem driveInput_changed (hl : level ≠ (State.panel s i).level) (hc : 4 ≤ (State.panel s i).count + 1) :
    State.driveInput s i level true = State.markSample (State.changeInput s i level) i := by
  have hsample := panelSampled_fourth hl hc
  rw [driveInput_sampled hr hn]
  rcases tickPart_sample (State.setPanel s i { State.panel s i with pin := level }) i with
    ⟨ha, -⟩ | ⟨-, hlevel, -⟩ | ⟨-, -, -, e⟩
  · simp [hr] at ha
  · simp only [panel_setPanel_self, hsample] at hlevel
    exact absurd hlevel hl
  · rw [e]
    simp [hsample, State.changeInput]

end

/-! ### What a changed panel input reaches (08 Table 8-2) -/

/-- 08 Table 8-2: what the readers of a changed input leave alone, beside what `handInput_frame` names. -/
theorem handInput_kept (s : State) (i : PanelInput) (level : Bool) :
    (State.handInput s i level).sqe = { s.sqe with owned := (State.handInput s i level).sqe.owned } ∧
    (State.handInput s i level).adu.base = s.adu.base ∧ (State.handInput s i level).adu.tally = s.adu.tally ∧
    (State.handInput s i level).adu.gauges = s.adu.gauges ∧
    (i ≠ .floodAlarm → (State.handInput s i level).ncu = s.ncu) := by
  cases i with
  | floodAlarm =>
    cases level with
    | false => exact ⟨rfl, rfl, rfl, rfl, absurd rfl⟩
    | true =>
      obtain ⟨-, hadu, -, hsqe, -⟩ := floodTest_frame s
      rw [State.handInput, if_pos rfl, hadu, hsqe]
      exact ⟨rfl, rfl, rfl, rfl, absurd rfl⟩
  | maintEnable => exact ⟨rfl, rfl, rfl, rfl, fun _ => rfl⟩
  | trip u => cases level <;> exact ⟨rfl, rfl, rfl, rfl, fun _ => rfl⟩

/-- 08 Table 8-2: what a changed input leaves alone, its readers included. -/
theorem changeInput_frame (s : State) (i : PanelInput) (level : Bool) :
    (State.changeInput s i level).spu = (State.setPanel s i ⟨level, level, 0⟩).spu ∧
    (State.changeInput s i level).sqe = { s.sqe with owned := (State.changeInput s i level).sqe.owned } ∧
    (State.changeInput s i level).adu.base = s.adu.base ∧ (State.changeInput s i level).adu.tally = s.adu.tally ∧
    (State.changeInput s i level).adu.gauges = s.adu.gauges ∧
    (State.changeInput s i level).clu = s.clu ∧ (State.changeInput s i level).rpu = s.rpu ∧
    (State.changeInput s i level).mgu = s.mgu ∧ (State.changeInput s i level).tst = s.tst ∧
    (State.changeInput s i level).handed = s.handed ∧
    (i ≠ .floodAlarm → (State.changeInput s i level).ncu = s.ncu) := by
  unfold State.changeInput
  split
  · exact ⟨rfl, rfl, rfl, rfl, rfl, rfl, rfl, rfl, rfl, rfl, fun _ => rfl⟩
  · obtain ⟨hsqe, hbase, htally, hgauges, hncu⟩ := handInput_kept (State.setPanel s i ⟨level, level, 0⟩) i level
    obtain ⟨hrpu, hclu, hspu, hmgu, htst, hhanded, -⟩ := handInput_frame (State.setPanel s i ⟨level, level, 0⟩) i level
    exact ⟨hspu, hsqe, hbase, htally, hgauges, hclu, hrpu, hmgu, htst, hhanded, hncu⟩

section

variable {s : State} (h : s.rpu.state ≠ .load)

include h

/-- R72: a trip line taken active. -/
theorem changeInput_trip_active (k : UnitIx) : State.changeInput s (.trip k) true =
    State.tripActive (State.setPanel s (.trip k) ⟨true, true, 0⟩) k := if_neg h

/-- R72: a trip line taken inactive. -/
theorem changeInput_trip_inactive (k : UnitIx) : State.changeInput s (.trip k) false =
    State.tripInactive (State.setPanel s (.trip k) ⟨false, false, 0⟩) k := if_neg h

/-- R98: FLOOD_ALARM taken active is an entry test, whose cause it is. -/
theorem changeInput_alarm : State.changeInput s .floodAlarm true =
      State.floodTest (State.setPanel s .floodAlarm ⟨true, true, 0⟩) ∧
    State.floodCause (State.setPanel s .floodAlarm ⟨true, true, 0⟩) = some .alarm := by
  have hactive : State.inputActive (State.setPanel s .floodAlarm ⟨true, true, 0⟩) .floodAlarm = true := by
    simp [State.inputActive, h]
  exact ⟨if_neg h, if_pos hactive⟩

end

/-- A change that no other block reads is filtered, and no more: in LOAD, of MAINT_ENABLE, or of FLOOD_ALARM to
inactive (08 Table 8-2, R148). -/
theorem changeInput_unread {s : State} {i : PanelInput} {level : Bool}
    (h : s.rpu.state = .load ∨ i = .maintEnable ∨ i = .floodAlarm ∧ level = false) :
    State.changeInput s i level = State.setPanel s i ⟨level, level, 0⟩ := by
  unfold State.changeInput
  split
  · rfl
  · rcases h with h | rfl | ⟨rfl, rfl⟩
    · exact absurd h ‹_›
    · rfl
    · rfl

end Sys2Proof.Machine

namespace Sys2Proof.Supervision

open Machine Safety

/-- R147: three samples of a line whose pin stands at the other level leave the filtered level; the fourth changes
it. -/
theorem panelSampled_four {r : PanelLine} (hpin : r.pin ≠ r.level) (hcount : r.count = 0) :
    panelSampled (panelSampled (panelSampled r)) = { r with count := 3 } ∧
    panelSampled { r with count := 3 } = { r with level := r.pin } := by
  constructor <;> simp [panelSampled, hpin, hcount]

/-- R147: four ticks over a line whose pin stands at the other level. -/
theorem panel_fourTicks {s : Machine.State} (h : State.Sampling s) {i : PanelInput}
    (hpin : (State.panel s i).pin ≠ (State.panel s i).level) (hcount : (State.panel s i).count = 0) :
    ∃ a b c d, step s = .next a ∧ step a = .next b ∧ step b = .next c ∧ step c = .next d ∧
      State.panel c i = { State.panel s i with count := 3 } ∧
      State.panel d i = { State.panel s i with level := (State.panel s i).pin } := by
  obtain ⟨hthird, hfourth⟩ := panelSampled_four hpin hcount
  have hc : State.panel (State.tick (State.tick (State.tick s))) i = { State.panel s i with count := 3 } := by
    rw [h.tick.tick.panel_tick, h.tick.panel_tick, h.panel_tick, hthird]
  exact ⟨_, _, _, _, step_idle h.idle, step_idle h.tick.idle, step_idle h.tick.tick.idle,
    step_idle h.tick.tick.tick.idle, hc, by rw [h.tick.tick.tick.panel_tick, hc, hfourth]⟩

/-- Settles O50: the tick's samples by `idleStepIsOneTick`, and the command's sample by whether it is the fourth, whose
change goes to the input's readers. -/
theorem panelFilterTakesFourSamples : Obligations.PanelFilterTakesFourSamples := by
  unfold Obligations.PanelFilterTakesFourSamples
  refine ⟨fun s hp => ⟨_, step_idle hp, panel_tick hp⟩, ?_, ?_⟩
  · rintro s i r hp ht hr rfl hpin hcount
    exact panel_fourTicks ⟨hp, ht, hr⟩ hpin hcount
  · rintro s i level sampled r u rfl rfl
    have hexec : exec (.panelInputChange i level sampled) s = .next (State.driveInput s i level sampled) := rfl
    rw [hexec]
    refine ⟨fun h => congrArg Host.Outcome.next (driveInput_pin h), ?_, ?_⟩
    · rintro rfl hr hn h
      exact congrArg Host.Outcome.next (driveInput_steady hr hn h)
    rintro rfl hr hn hl hc
    rw [driveInput_changed hr hn hl hc, panelSampled_fourth hl hc]
    obtain ⟨hspu, hsqe, hbase, htally, hgauges, hclu, hrpu, hmgu, htst, hhanded, hncu⟩ := changeInput_frame s i level
    have hunread : (s.rpu.state = .load ∨ i = .maintEnable ∨ i = .floodAlarm ∧ level = false) →
        State.markSample (State.changeInput s i level) i =
          State.markSample (State.setPanel s i ⟨level, level, 0⟩) i :=
      fun h => congrArg (State.markSample · i) (changeInput_unread h)
    refine ⟨_, rfl, ?_, fun h => ?_, ?_, ?_, ?_, ?_, fun hi hlevel => hunread (.inr (.inr ⟨hi, hlevel⟩)), hncu, hspu,
      hsqe, hbase, ?_, htally, hgauges, hclu, hrpu, hmgu, htst⟩
    · have hpanel : State.panel (State.changeInput s i level) i = ⟨level, level, 0⟩ := by
        rw [State.panel, hspu, ← State.panel, panel_setPanel_self]
      exact hpanel
    · exact hunread (h.imp_right .inl)
    · rintro k hload rfl rfl
      rw [changeInput_trip_active hload]
      exact ⟨gate_tripActive _ k, ownership_report _, rfl⟩
    · rintro k hload rfl rfl
      rw [changeInput_trip_inactive hload]
      exact ⟨gate_tripInactive _ k, ownership_report _, rfl⟩
    · rintro hload rfl rfl hm
      obtain ⟨htest, hcause⟩ := changeInput_alarm hload
      rw [htest, floodTest_normal hcause hm]
      exact ⟨rfl, rfl, bounds_recompute _, rfl, rfl, rfl, rfl⟩
    · rintro hload rfl rfl hm
      obtain ⟨htest, hcause⟩ := changeInput_alarm hload
      rw [htest, floodTest_flood hcause hm]
      rfl
    · rw [State.markSample, hhanded]

end Sys2Proof.Supervision

namespace Sys2Proof.Machine

open Safety

/-! ### The notice queue and the counters under the acts of the blocks (R167 to R172) -/

/-- R167 to R172: the NCU's record is sound: the notice queue, the live counters and the captured ones. -/
structure NcuOk (u : Ncu) : Prop where
  notices : NoticesOk u
  counters : CountersOk u.counters
  bank : CountersOk u.bank

theorem NcuOk.of_sound {s : State} (h : Sound s) : NcuOk s.ncu := ⟨h.notices, h.counters, h.bank⟩

/-! #### The NCU's own acts -/

/-- R167 to R169: a notice reaches the queue and the lost count alone. -/
theorem NcuOk.notify {u : Ncu} (h : NcuOk u) (n : Notice) : NcuOk (Ncu.notify u n) where
  notices := notices_notify h.notices n
  counters := (Ncu.notify_counters u n).symm ▸ h.counters
  bank := (Ncu.notify_bank u n).symm ▸ h.bank

/-- R170: a notice that leaves reaches the queue and the lost count alone. -/
theorem NcuOk.emit {u : Ncu} (h : NcuOk u) : NcuOk (Ncu.emit u) where
  notices := notices_emit h.notices
  counters := (Ncu.emit_counters u).symm ▸ h.counters
  bank := (Ncu.emit_bank u).symm ▸ h.bank

section

variable {s : State} (h : NcuOk s.ncu)

include h

theorem ncuOk_notify (n : Notice) : NcuOk (State.notify s n).ncu := h.notify n

/-- R171: a station counter saturates at its maximum. -/
theorem ncuOk_count (c : Counter) : NcuOk (State.count s c).ncu := ⟨h.notices, counters_count h.counters c, h.bank⟩

theorem ncuOk_countIf (b : Bool) (c : Counter) : NcuOk (State.countIf s b c).ncu := by
  cases b with
  | false => exact h
  | true => exact ncuOk_count h c

/-- R58, R71: a travel total saturates at its maximum. -/
theorem ncuOk_addTravel (g : GateIx) (d : Nat) : NcuOk (State.addTravel s g d).ncu :=
  ⟨h.notices, counters_addTravel h.counters g d, h.bank⟩

/-- R57: a reversal count saturates at its maximum. -/
theorem ncuOk_addReversal (g : GateIx) (b : Bool) : NcuOk (State.addReversal s g b).ncu := by
  obtain ⟨hstation, htravel, hreversals⟩ := h.counters
  cases b with
  | false => exact h
  | true =>
    refine ⟨h.notices, ⟨hstation, htravel, fun k => ?_⟩, h.bank⟩
    rw [reversals_addReversal]
    split
    · exact Nat.min_le_left _ _
    · exact hreversals k

/-- R172: a capture copies the live counters to the bank, and leaves them as they are or at 0. -/
theorem ncuOk_capture (clear : Bool) : NcuOk (State.capture s clear).ncu := by
  refine ⟨h.notices, ?_, h.counters⟩
  cases clear with
  | false => exact h.counters
  | true => exact counters_zero

omit h in
theorem ncuOk_repeat {f : State → State} (hf : ∀ {s}, NcuOk s.ncu → NcuOk (f s).ncu) (n : Nat) {s : State}
    (h : NcuOk s.ncu) : NcuOk (Nat.repeat f n s).ncu := by
  induction n with
  | zero => exact h
  | succ n ih => exact hf ih

omit h in
theorem ncuOk_foldl {β : Type} {f : State → β → State} (hf : ∀ {s}, NcuOk s.ncu → ∀ b, NcuOk (f s b).ncu)
    (l : List β) {s : State} (h : NcuOk s.ncu) : NcuOk (l.foldl f s).ncu :=
  List.foldlRecOn (motive := fun s => NcuOk s.ncu) l f h fun _ hs b _ => hf hs b

omit h in
/-- R19, R149: a reset leaves an empty queue and counters at 0. -/
theorem ncuOk_powerOn (s : State) (asserted : Bool) : NcuOk (State.powerOn s asserted).ncu :=
  NcuOk.of_sound (s := State.reset) GateRing.resetIsSound

/-! #### Admission and selection (03, 04) -/

theorem ncuOk_noticeState (g : GateIx) (old new : GateState) : NcuOk (State.noticeState s g old new).ncu := by
  rw [noticeState_ncu]
  split
  · exact h
  · exact h.notify _

theorem ncuOk_countAdmission (x : Stages) : NcuOk (State.countAdmission s x).ncu :=
  ncuOk_countIf (ncuOk_countIf (ncuOk_countIf (ncuOk_countIf (ncuOk_count h _) _ _) _ _) _ _) _ _

/-- R57 to R62: an admission counts, and queues a CLAMP when its result differs from the request. -/
theorem ncuOk_admission (g : GateIx) (y : Submission) : NcuOk (State.admission s g y).ncu := by
  have hquiet : NcuOk (State.admitQuietly s g y).ncu := by
    refine ncuOk_addReversal (ncuOk_addTravel (ncuOk_countAdmission ?_ _) g _) g _
    exact h
  rw [admission_eq]
  split
  · exact hquiet
  · exact ncuOk_notify hquiet _

theorem ncuOk_refuse (g : GateIx) (cmd : Option DispatchCommand) (why : RefusalReason) :
    NcuOk (State.refuse s g cmd why).ncu := by
  cases cmd with
  | none => exact h
  | some c => exact ncuOk_count h .refused

/-- R71: a trip closure counts the travel and a refused command. -/
theorem ncuOk_caseTrip (g : GateIx) (cmd : Option DispatchCommand) : NcuOk (State.caseTrip s g cmd).1.ncu :=
  ncuOk_refuse (s := State.tripCloses s g) (ncuOk_addTravel h g _) g cmd .tripped

theorem ncuOk_releaseTrip (g : GateIx) : NcuOk (State.releaseTrip s g).ncu := by
  unfold State.releaseTrip
  dsimp only
  split <;> exact h

theorem ncuOk_caseDispatch (g : GateIx) (c : DispatchCommand) (urgent : Bool) :
    NcuOk (State.caseDispatch s g c urgent).1.ncu := by
  have htaken : NcuOk (State.dispatchTakes s g).ncu := by
    rw [ncu_dispatchTakes]
    split
    · exact h.notify _
    · exact h
  exact ncuOk_admission htaken g _

theorem ncuOk_caseEngine (g : GateIx) (cmd : Option DispatchCommand) : NcuOk (State.caseEngine s g cmd).1.ncu :=
  ncuOk_admission (ncuOk_refuse (s := State.setGate s g _) h g cmd .engineOwned) g _

theorem ncuOk_countHold (g : GateIx) : NcuOk (State.countHold s g).ncu :=
  ncuOk_noticeState (s := State.setGate s g _) h g _ _

/-- R78, R79: a silent slot is filled by the loss action or by a counted hold frame. -/
theorem ncuOk_caseSilent (g : GateIx) : NcuOk (State.caseSilent s g).1.ncu := by
  have hheld := ncuOk_countHold h g
  unfold State.caseSilent
  dsimp only
  split
  · exact ncuOk_admission (s := State.setGate (State.countHold s g) g _) hheld g _
  · exact ncuOk_count (s := State.setGate (State.countHold s g) g _) hheld .holdFills

theorem ncuOk_laterCases (g : GateIx) (cmd : Option DispatchCommand) : NcuOk (State.laterCases s g cmd).1.ncu := by
  unfold State.laterCases
  cases cmd with
  | some c =>
    dsimp only
    split
    · exact ncuOk_caseDispatch h g c true
    · split
      · exact ncuOk_caseEngine h g _
      · split
        · exact ncuOk_refuse h g _ _
        · exact ncuOk_caseDispatch h g c false
  | none =>
    dsimp only
    split
    · exact ncuOk_caseEngine h g _
    · split
      · exact ncuOk_refuse h g _ _
      · exact ncuOk_caseSilent h g

theorem ncuOk_select (g : GateIx) (cmd : Option DispatchCommand) : NcuOk (State.select s g cmd).1.ncu := by
  unfold State.select
  dsimp only
  split
  · exact ncuOk_refuse h g _ _
  · split
    · exact ncuOk_caseTrip h g _
    · exact ncuOk_laterCases (ncuOk_releaseTrip h g) g _

theorem ncuOk_slotNotReached (g : GateIx) : NcuOk (State.slotNotReached s g).ncu := by
  rcases slotNotReached_reports s g with ⟨-, -, e⟩ | ⟨-, e⟩ <;> rw [e]
  · exact h.notify _
  · exact h

/-! #### Gate records and their installs (02) -/

theorem ncuOk_retrackTo (g : GateIx) (m : Nat) (st : GateState) (fault : Bool) :
    NcuOk (State.retrackTo s g m st fault).ncu := by
  obtain ⟨-, hncu, -⟩ := retrackTo_frame s g m st fault
  rw [hncu]
  split
  · exact h
  · exact h.notify _

theorem ncuOk_block (g : GateIx) (fault out : Bool) : NcuOk (State.block s g fault out).ncu :=
  ncuOk_noticeState (s := State.setGate s g _) h g _ _

theorem ncuOk_deviationCheck (g : GateIx) (m : Nat) : NcuOk (State.deviationCheck s g m).ncu := by
  unfold State.deviationCheck
  dsimp only
  split
  · split
    · exact ncuOk_notify h _
    · exact h
  · exact h

theorem ncuOk_actOnReport (g : GateIx) (m : Nat) (d : DriveStatus) : NcuOk (State.actOnReport s g m d).ncu := by
  unfold State.actOnReport
  dsimp only
  split
  · exact h
  · exact ncuOk_retrackTo h g m _ _
  iterate 2 -- SERVICE and STALE
    · split
      · exact ncuOk_deviationCheck h g m
      · exact ncuOk_block h g _ _
      · exact ncuOk_retrackTo h g m _ _
  · exact ncuOk_retrackTo h g m _ _
  · split
    · exact h
    · split
      · exact h
      · exact ncuOk_retrackTo h g m _ _

theorem ncuOk_takePosition (g : GateIx) (a b : Word) : NcuOk (State.takePosition s g a b).ncu := by
  unfold State.takePosition
  dsimp only
  split
  · exact h
  · exact ncuOk_actOnReport (s := State.setGate s g _) h g _ _

theorem ncuOk_floodTest : NcuOk (State.floodTest s).ncu := by
  unfold State.floodTest
  split
  · exact h
  · split
    · exact h
    · rw [State.recomputeBounds_ncu]
      exact ncuOk_notify h _

theorem ncuOk_takeStage (g : GaugeIx) (level : Word) (bad : Bool) : NcuOk (State.takeStage s g level bad).ncu := by
  unfold State.takeStage
  dsimp only
  split
  · exact h
  · split
    · exact ncuOk_floodTest (s := State.setGauge s g _) h
    · exact h

theorem ncuOk_gateOut (g : GateIx) : NcuOk (State.gateOut s g).ncu := by
  unfold State.gateOut
  dsimp only
  split
  · exact h
  · refine ncuOk_block ?_ g _ _
    exact h
  · exact h
  · exact ncuOk_block h g _ _

theorem ncuOk_gateIn (g : GateIx) : NcuOk (State.gateIn s g).ncu := by
  unfold State.gateIn
  dsimp only
  split
  · split
    · exact h
    · exact ncuOk_notify h _
  · exact h

theorem ncuOk_installGate (g : GateIx) : NcuOk (State.installGate s g).ncu := by
  unfold State.installGate
  dsimp only
  split
  · refine ncuOk_noticeState ?_ g _ _
    exact h
  · split
    · exact ncuOk_notify h _
    · exact h

/-! #### The schedule, the links and the engine (05 to 07) -/

/-- R86, R91, R99: a boundary queues the cursor's notice and that of an exit from FLOOD. -/
theorem ncuOk_takeBoundary : NcuOk (State.takeBoundary s).ncu := by
  have hbegun : NcuOk (State.beginInterval s).ncu := by
    unfold State.beginInterval State.notifyOpt
    split
    · exact ncuOk_notify h _
    · exact h
  unfold State.takeBoundary
  split
  · rw [boundary_ncu]
    split
    · exact hbegun.notify _
    · exact hbegun
  · exact h

theorem ncuOk_setPort (p : Port) (r : LinkPort) : NcuOk (State.setPort s p r).ncu := by
  rw [State.setPort_ncu]
  exact h

/-- R111: a message that displaces another, or that finds its port not UP, is counted. -/
theorem ncuOk_produce (p : Port) (m : Produced) : NcuOk (State.produce s p m).ncu := by
  unfold State.produce
  dsimp only
  split
  · exact ncuOk_setPort h p _
  · exact ncuOk_setPort h p _
  · exact ncuOk_count (ncuOk_setPort h p _) .linkSuperseded
  · exact ncuOk_count h .linkTimeouts

theorem ncuOk_takeReRating : NcuOk (State.takeReRating s).ncu := by
  unfold State.takeReRating State.produceRelease
  split
  · exact h
  · rename_i n rest _
    have hrated : NcuOk (State.recomputeBounds
      (State.reRate { s with handed := { s.handed with reRatings := rest } })).ncu := h
    split
    · exact hrated
    · exact ncuOk_produce hrated _ _

theorem ncuOk_takeMaturity : NcuOk (State.takeMaturity s).ncu := by
  unfold State.takeMaturity State.mature
  split
  · exact h
  · dsimp only
    split <;> exact h

theorem ncuOk_windowTest : NcuOk (State.windowTest s).ncu := by
  unfold State.windowTest
  split
  · dsimp only
    split
    · split
      · exact ncuOk_notify h _
      · split <;> exact h
    · exact h
  · exact h

/-- R130: an entry queues its ENGINE notice and is counted. -/
theorem ncuOk_enter (dst : Nat) (cause : EntryCause) : NcuOk (State.enter s dst cause).ncu := by
  rw [State.enter, handCurtail_eq]
  refine ncuOk_count (ncuOk_notify ?_ _) .engineTransitions
  exact h

theorem ncuOk_takeTransition : NcuOk (State.takeTransition s).ncu := by
  unfold State.takeTransition
  split
  · split
    · exact ncuOk_enter h _ _
    · exact h
  · exact h

theorem ncuOk_evaluate : NcuOk (State.evaluate s).ncu := by
  by_cases he : s.handed.evaluation = true
  · have htaken := ncuOk_takeTransition (s := { s with handed := { s.handed with evaluation := false } }) h
    rw [evaluate_eq he]
    dsimp only
    split <;> exact htaken
  · rw [State.evaluate, if_neg he]
    exact h

theorem ncuOk_takeActions : NcuOk (State.takeActions s).ncu := by
  unfold State.takeActions
  split <;> exact h

theorem ncuOk_takeCurtail : NcuOk (State.takeCurtail s).ncu := by
  unfold State.takeCurtail
  split
  · exact h
  · rename_i c rest _
    exact ncuOk_produce (s := { s with handed := { s.handed with curtails := rest } }) h _ _

theorem ncuOk_takeAges : NcuOk (State.takeAges s).ncu := by
  unfold State.takeAges
  split <;> exact h

/-- Log 8: the acts that a marker left owing, one after another. -/
theorem ncuOk_settle : NcuOk (State.settle s).ncu := by
  rw [settle_eq]
  have hcounts : NcuOk (State.settleCounts (State.takeBoundary s)).ncu :=
    ncuOk_evaluate (ncuOk_windowTest (ncuOk_repeat ncuOk_takeMaturity _
      (ncuOk_repeat ncuOk_takeReRating _ (ncuOk_takeBoundary h))))
  exact ncuOk_takeAges (ncuOk_repeat ncuOk_takeCurtail _ (ncuOk_repeat ncuOk_takeActions _ hcounts))

theorem ncuOk_dropCounts (r : LinkPort) : NcuOk (State.dropCounts s r).ncu :=
  ncuOk_countIf (ncuOk_countIf h _ _) _ _

theorem ncuOk_transmit (p : Port) : NcuOk (State.transmit s p).ncu := by
  unfold State.transmit
  dsimp only
  split <;> exact ncuOk_setPort h p _

theorem ncuOk_placeReply (p : Port) (m : LinkMsg) : NcuOk (State.placeReply s p m).ncu := by
  rw [placeReply_eq]
  exact ncuOk_setPort h p _

/-- R120: an entry that matures early is counted. -/
theorem ncuOk_placeArrival (e : Arrival) : NcuOk (State.placeArrival s e).ncu := by
  unfold State.placeArrival
  split
  · exact h
  · split
    · exact h
    · split
      · exact h
      · exact ncuOk_count h .queueEarly

theorem ncuOk_takeTaken (p : Port) (m : LinkMsg) : NcuOk (State.takeTaken s p m).ncu := by
  unfold State.takeTaken
  dsimp only
  split
  · exact ncuOk_setPort h p _
  · exact h

theorem ncuOk_setCurtail (ceiling duration : Nat) : NcuOk (State.setCurtail s ceiling duration).ncu := by
  unfold State.setCurtail
  split <;> exact h

theorem ncuOk_disposeMsg (p : Port) (m : LinkMsg) : NcuOk (State.disposeMsg s p m).ncu := by
  unfold State.disposeMsg
  split
  · exact h
  · split
    · exact ncuOk_takeTaken h p m
    · split
      · exact ncuOk_placeReply (ncuOk_placeArrival h _) p m
      · split
        · exact ncuOk_placeReply (ncuOk_setCurtail h _ _) p m
        · exact ncuOk_count h .linkRejects

theorem ncuOk_validMsg (p : Port) : NcuOk (State.validMsg s p).ncu := by
  have hport (r : LinkPort) : NcuOk (State.setPort s p r).ncu := ncuOk_setPort h p r
  unfold State.validMsg
  dsimp only
  split
  · exact ncuOk_notify (hport _) _
  · exact hport _

theorem ncuOk_miswiredMsg (p : Port) : NcuOk (State.miswiredMsg s p).ncu := by
  have hcounted := ncuOk_count h .linkRejects
  rw [miswiredMsg_eq]
  split
  · exact hcounted
  · exact ncuOk_notify (ncuOk_setPort hcounted p _) _

theorem ncuOk_linkArrival (p : Port) (m : LinkMsg) : NcuOk (State.linkArrival s p m).ncu := by
  unfold State.linkArrival
  split
  · exact h
  · split
    · exact ncuOk_count h .linkRejects
    · split
      · exact ncuOk_miswiredMsg h p
      · exact ncuOk_disposeMsg (ncuOk_validMsg h p) p m

theorem ncuOk_byteTimeout (p : Port) (n : Nat) : NcuOk (State.byteTimeout s p n).ncu := by
  unfold State.byteTimeout
  split
  · exact h
  · exact ncuOk_countIf h _ _

/-- R123: a port that becomes absent counts what it drops, and an UP port is told of. -/
theorem ncuOk_fitPort (p : Port) : NcuOk (State.fitPort s p).ncu := by
  unfold State.fitPort
  dsimp only
  split
  · exact ncuOk_setPort h p _
  · exact h
  · exact h
  · exact ncuOk_dropCounts (ncuOk_setPort h p _) _
  · exact ncuOk_dropCounts (ncuOk_notify (ncuOk_setPort h p _) _) _

theorem ncuOk_installLink : NcuOk (State.installLink s).ncu := ncuOk_fitPort (ncuOk_fitPort h .up) .down

/-! #### The panel inputs and the local tick (08) -/

theorem ncuOk_handInput (i : PanelInput) (level : Bool) : NcuOk (State.handInput s i level).ncu := by
  cases i with
  | floodAlarm =>
    cases level with
    | true => exact ncuOk_floodTest h
    | false => exact h
  | maintEnable => exact h
  | trip u => cases level <;> exact h

theorem ncuOk_takeInput (i : PanelInput) : NcuOk (State.takeInput s i).ncu := by
  unfold State.takeInput
  dsimp only
  split
  · exact h
  · exact ncuOk_handInput (s := State.setPanel s i _) h i _

/-- R16, R104, R106, R111, R147: the counts of a tick are none of the NCU's counters. -/
theorem ncuOk_raise (x : TickPart) : NcuOk (State.raise s x).ncu := by
  obtain ⟨-, -, -, -, -, -, hncu, -⟩ := raise_frame s x
  rw [hncu]
  exact h

theorem ncuOk_expire (x : TickPart) : NcuOk (State.expire s x).ncu := by
  cases x with
  | gap => exact ncuOk_count h .ringLosses
  | silence p =>
    exact ncuOk_dropCounts (ncuOk_notify (ncuOk_setPort h p _) _) _
  | taken p => exact ncuOk_count (ncuOk_setPort h p _) .linkTimeouts
  | beacon p => exact ncuOk_setPort h p _
  | sample i => exact ncuOk_takeInput h i

theorem ncuOk_tickPart (x : TickPart) : NcuOk (State.tickPart s x).ncu := by
  unfold State.tickPart
  dsimp only
  split
  · exact ncuOk_expire (ncuOk_raise h x) x
  · exact ncuOk_raise h x

theorem ncuOk_tickOnce (x : TickPart) : NcuOk (State.tickOnce s x).ncu := by
  unfold State.tickOnce
  split
  · exact h
  · exact ncuOk_tickPart h x

theorem ncuOk_takeAhead (x : TickPart) : NcuOk (State.takeAhead s x).ncu := by
  rcases takeAhead_cases s x with ⟨-, e⟩ | ⟨-, e⟩ <;> rw [e]
  · exact h
  · exact ncuOk_tickPart h x

theorem ncuOk_tickAhead (x : TickPart) : NcuOk (State.tickAhead s x).ncu := by
  unfold State.tickAhead
  split
  · exact ncuOk_takeAhead h x
  · exact h

theorem ncuOk_driveInput (i : PanelInput) (level sampled : Bool) :
    NcuOk (State.driveInput s i level sampled).ncu := by
  unfold State.driveInput
  dsimp only
  split
  · exact ncuOk_takeAhead (s := State.setPanel s i _) h _
  · exact h

theorem ncuOk_endTick : NcuOk (State.endTick s).ncu := h

theorem ncuOk_tick : NcuOk (State.tick s).ncu := ncuOk_endTick <|
  ncuOk_foldl ncuOk_tickOnce sampleParts (ncuOk_foldl ncuOk_transmit bothPorts
    (ncuOk_foldl ncuOk_tickOnce tickParts (ncuOk_settle h)))

/-! #### The Table Store and reset (09) -/

theorem ncuOk_restart : NcuOk (State.restart s).ncu := ncuOk_enter h _ _

theorem ncuOk_installStation : NcuOk (State.installStation s).ncu := ncuOk_floodTest h

theorem ncuOk_handInstall (n : Nat) : NcuOk (State.handInstall s n).ncu := by
  unfold State.handInstall
  split
  · exact ncuOk_installGate h _
  · split
    · exact ncuOk_installStation h
    · split
      · exact ncuOk_restart h
      · split
        · exact ncuOk_installLink h
        · exact h

theorem ncuOk_install (n : Nat) (words : WordStore) : NcuOk (State.install s n words).ncu := by
  unfold State.install
  dsimp only
  refine ncuOk_handInstall ?_ n
  dsimp only
  split
  · exact ncuOk_windowTest h
  · exact h

/-- R161, R164, R165: an operation that ends queues its STORE notice. -/
theorem ncuOk_endOp (op : Operation) (done : Bool) : NcuOk (State.endOp s op done).ncu := by
  refine ncuOk_notify ?_ _
  exact h

theorem ncuOk_installGates : NcuOk (State.installGates s).ncu := ncuOk_foldl ncuOk_installGate allGates h

theorem ncuOk_takeReload (x : InstallTaker) : NcuOk (State.takeReload s x).ncu := by
  cases x with
  | adu => exact ncuOk_installGates h
  | scu => exact ncuOk_installStation h
  | sqe => exact ncuOk_restart h
  | clu => exact ncuOk_installLink h
  | mgu => exact ncuOk_endOp (s := { s with mgu := { s.mgu with buffer := none } }) h .reload true

theorem ncuOk_completeStore (ok : Bool) : NcuOk (State.completeStore s ok).ncu := by
  unfold State.completeStore
  split
  · split <;> exact ncuOk_endOp (s := State.setImage s _) h .store _
  · exact h

theorem ncuOk_completeCommission (ok : Bool) : NcuOk (State.completeCommission s ok).ncu := by
  unfold State.completeCommission
  split
  · dsimp only
    split
    · split <;> exact ncuOk_endOp (s := State.setImage s _) h .commissionLock _
    · exact ncuOk_endOp h .commissionLock false
  · exact h

theorem ncuOk_completeReload (order : List InstallTaker) : NcuOk (State.completeReload s order).ncu := by
  unfold State.completeReload
  split
  · split
    · refine ncuOk_foldl ncuOk_takeReload _ ?_
      exact ncuOk_windowTest h
    · exact ncuOk_endOp h .reload false
  · exact h

theorem ncuOk_firstReading : NcuOk (State.firstReading s).ncu := by
  have handed_on : ∀ {u : State}, NcuOk u.ncu → ∀ i, NcuOk (State.handIfActive u i).ncu := by
    intro u hu i
    unfold State.handIfActive
    split
    · exact ncuOk_handInput hu i true
    · exact hu
  have read : ∀ {u : State}, NcuOk u.ncu → ∀ i, NcuOk (State.readInput u i).ncu := fun hu _ => hu
  exact ncuOk_foldl handed_on allInputs (ncuOk_foldl read allInputs h)

/-- R166: the load queues an IMAGE notice for a bad checksum. -/
theorem ncuOk_completeLoad : NcuOk (State.completeLoad s).ncu := by
  by_cases hload : s.rpu.state = .load ∧ s.tst.resetAsserted = false
  · have hloaded : NcuOk (State.imageLoaded s).ncu := by
      unfold State.imageLoaded
      dsimp only
      split
      · exact ncuOk_notify h _
      · exact h
    rw [completeLoad_eq hload]
    refine ncuOk_firstReading ?_
    exact hloaded
  · rw [State.completeLoad, if_neg hload]
    exact h

/-! #### Management requests (09) -/

theorem ncuOk_command (c : Command) (arg : Nat) : NcuOk (State.command s c arg).ncu := by
  cases c with
  | engineHold | engineRun | engineStep => exact ncuOk_evaluate h
  | engineRestart => exact ncuOk_restart (ncuOk_evaluate h)
  | store | reload | lockRaise | lockLower | floodCancel => exact h
  | commissionLock =>
    simp only [State.command, State.startCommission]
    split <;> exact h
  | gateOut =>
    simp only [State.command]
    split
    · exact ncuOk_gateOut h _
    · exact h
  | gateIn =>
    simp only [State.command]
    split
    · exact ncuOk_gateIn h _
    · exact h
  | scheduleStart => exact ncuOk_notify h _
  | floodDeclare => exact ncuOk_floodTest (s := { s with scu := { s.scu with declared := true } }) h
  | curtailRequest => exact ncuOk_produce h _ _

theorem ncuOk_writeWord (a : Nat) (b : Word) : NcuOk (State.writeWord s a b).ncu := by
  unfold State.writeWord
  split
  · exact h
  · split <;> exact h

theorem ncuOk_setPointer (sp : Space) (p : BitVec 12) : NcuOk (State.setPointer s sp p).ncu := by
  cases sp <;> exact h

/-- R172: of the requests, CAPTURE reaches the counters; CHECK and COMMAND reach the NCU through the other blocks. -/
theorem ncuOk_perform (op : Op) (f : Frame) : NcuOk (State.perform s op f).1.ncu := by
  cases op with
  | read | openEdit | abandon => exact h
  | readNext | setPointer => exact ncuOk_setPointer h _ _
  | write => exact ncuOk_writeWord h _ _
  | writeNext => exact ncuOk_setPointer (ncuOk_writeWord h _ _) _ _
  | capture => exact ncuOk_capture h _
  | check =>
    simp only [State.perform, State.checkInstall]
    split
    · exact ncuOk_install h _ _
    · exact h
  | command =>
    simp only [State.perform]
    split
    · exact ncuOk_command h _ _
    · exact h

theorem ncuOk_manage (f : Frame) : NcuOk (State.manage s f).1.ncu := by
  unfold State.manage
  split
  · exact h
  · exact ncuOk_perform h _ f
  · exact h

/-! #### The ring (01) -/

theorem ncuOk_passFrame (f : Frame) : NcuOk (State.passFrame s f).ncu := by
  rw [passFrame_eq]
  exact ncuOk_countIf h _ _

theorem ncuOk_tap (binding : Nat) (f : Frame) : NcuOk (State.tap s binding f).ncu := by
  unfold State.tap
  split
  · exact h
  · split
    · split
      · split
        · exact ncuOk_takePosition h _ _ _
        · exact h
      · exact h
    · split
      · split
        · split
          · exact ncuOk_takeStage h _ _ _
          · exact h
        · exact h
      · exact h

theorem ncuOk_takeHeartbeat (q : BitVec 4) : NcuOk (State.takeHeartbeat s q).ncu := by
  have hwindow := ncuOk_windowTest h
  unfold State.takeHeartbeat
  dsimp only
  split
  · split
    · exact hwindow
    · exact ncuOk_count hwindow .heartbeatErrors
  · split
    · split
      · exact ncuOk_notify hwindow _
      · exact ncuOk_count hwindow .heartbeatErrors
    · exact hwindow

theorem ncuOk_slotFrame (x : SlotTable) (p : Nat) (f : Frame) : NcuOk (State.slotFrame s x p f).ncu := by
  unfold State.slotFrame
  split
  · split
    · exact ncuOk_select (ncuOk_countIf h _ _) _ _
    · exact ncuOk_countIf h _ _
  · exact ncuOk_passFrame (ncuOk_tap h _ f) f
  · unfold State.managementSlot
    split
    · exact h
    · split
      · exact ncuOk_manage h f
      · exact ncuOk_passFrame h f
  · unfold State.noticeSlot
    split
    · split
      · exact h.emit
      · exact ncuOk_passFrame h f
    · exact ncuOk_passFrame h f
  · unfold State.heartbeatSlot
    refine ncuOk_passFrame ?_ f
    split
    · exact ncuOk_takeHeartbeat h _
    · exact h
  · exact ncuOk_passFrame h f

theorem ncuOk_runFrame (x : SlotTable) (f : Frame) : NcuOk (State.runFrame s x f).ncu := by
  unfold State.runFrame
  dsimp only
  split
  · exact ncuOk_slotFrame (s := State.positionTaken s) h x _ f
  · exact ncuOk_passFrame (ncuOk_count (s := State.positionTaken s) h .excessFrames) f

theorem ncuOk_closeCycle : NcuOk (State.closeCycle s).ncu := by
  unfold State.closeCycle
  split
  · split
    · exact ncuOk_foldl ncuOk_slotNotReached _ (ncuOk_count h .shortCycles)
    · exact h
  · exact h

theorem ncuOk_endLoss : NcuOk (State.endLoss s).ncu := by
  unfold State.endLoss
  split
  · exact ncuOk_notify h _
  · exact h

/-- R2, R17: of a marker, its event and the cycle it opens reach no notice and no counter. -/
theorem ncuOk_takeMarker (f : Frame) (late : Bool) : NcuOk (State.takeMarker s f late).ncu := by
  have hmarked (u : State) : (State.markerEvent u late).ncu = u.ncu := by cases late <;> rfl
  have hopened (u : State) (n : BitVec 32) : (State.openCycle u n).ncu = u.ncu := rfl
  simp only [State.takeMarker, State.emit, hmarked, hopened]
  exact ncuOk_endLoss (ncuOk_closeCycle (ncuOk_settle h))

theorem ncuOk_ringArrival (f : Frame) (late : Bool) : NcuOk (State.ringArrival s f late).ncu := by
  unfold State.ringArrival
  split
  · exact h
  · split
    · exact ncuOk_takeMarker h f late
    · dsimp only
      have hcounted := ncuOk_countIf (ncuOk_takeAges h) (!Frame.good f) .badCheck
      split
      · exact ncuOk_runFrame hcounted _ f
      · exact ncuOk_passFrame hcounted f

end

/-! #### Every command -/

open Laws in
/-- R167 to R172: every command keeps the NCU's record sound. -/
theorem ncuOk_exec {c : Instr} {s t : State} (h : NcuOk s.ncu) (hx : exec c s = .next t) : NcuOk t.ncu := by
  cases hc : Families.ringFrame c with
  | some f =>
    obtain ⟨late, e⟩ := exec_ringFrame hc s
    cases e.symm.trans hx
    exact ncuOk_ringArrival h f late
  | none =>
    cases c with
    | powerOn => cases hx; exact ncuOk_powerOn s false
    | resetNAssert short =>
      cases hx
      unfold State.assertReset
      split
      · exact ncuOk_powerOn s _
      · exact h
    | resetNRelease => cases hx; exact h
    | startUpLoadComplete => cases hx; exact ncuOk_completeLoad h
    | ringLoss | beaconDue p | silenceExpiry p | takenTimeout p => cases hx; exact ncuOk_tickAhead h _
    | intervalBoundary => cases hx; exact ncuOk_takeBoundary h
    | reRating => cases hx; exact ncuOk_takeReRating h
    | arrivalMaturity => cases hx; exact ncuOk_takeMaturity h
    | supervisionWindowExpiry => cases hx; exact ncuOk_windowTest h
    | engineEvaluation => cases hx; exact ncuOk_evaluate h
    | actionListApply => cases hx; exact ncuOk_takeActions h
    | curtailUp => cases hx; exact ncuOk_takeCurtail h
    | storeComplete ok => cases hx; exact ncuOk_completeStore h ok
    | reloadComplete order => cases hx; exact ncuOk_completeReload h order
    | commissionLockComplete ok => cases hx; exact ncuOk_completeCommission h ok
    | panelInputChange i level sampled => cases hx; exact ncuOk_driveInput h i level sampled
    | linkTransmit p => cases hx; exact ncuOk_transmit h p
    | linkByteTimeout p n => cases hx; exact ncuOk_byteTimeout h p n
    | beacon p m | taken p m | release m | curtail m | wrongDirectionMessage p k m | badCheckMessage p m
    | miswiredMessage p m => cases hx; exact ncuOk_linkArrival h _ _
    | _ => cases hc

/-- R167 to R172: every step, a command or a local tick, keeps the NCU's record sound. -/
theorem ncuOk_step {s t : State} (h : NcuOk s.ncu) (hstep : step s = .next t) : NcuOk t.ncu := by
  unfold step at hstep
  split at hstep
  · rw [← Host.Outcome.next.inj hstep]
    exact ncuOk_tick h
  · rename_i c rest _
    exact ncuOk_exec (s := { s with pending := rest }) h hstep

end Sys2Proof.Machine

namespace Sys2Proof.Notices

open Machine Safety

/-- Settles O5: the blocks reach the NCU through its own acts alone, each of which keeps its record sound. -/
theorem stepKeepsNoticesAndCounters : Obligations.StepKeepsNoticesAndCounters := by
  unfold Obligations.StepKeepsNoticesAndCounters
  intro s t hsound hstep
  obtain ⟨hnotices, hcounters, hbank⟩ := ncuOk_step (NcuOk.of_sound hsound) hstep
  exact ⟨hnotices, hcounters, hbank⟩

end Sys2Proof.Notices

namespace Sys2Proof.Machine

/-! ### The command queue under the acts of the blocks (log 1)

No act of a block reads or changes the commands that wait. -/

/-! #### The ADU: the selection and the gate records (02 to 04) -/

@[simp] theorem pending_admission (s : State) (g : GateIx) (x : Submission) :
    (State.admission s g x).pending = s.pending := by
  obtain ⟨-, -, -, -, -, -, -, -, -, hpending, -⟩ := admit_frame s g x
  exact hpending

@[simp] theorem pending_admitFrame (s : State) (g : GateIx) (x : Submission) (w : Option Word) :
    (State.admitFrame s g x w).1.pending = s.pending := pending_admission s g x

@[simp] theorem pending_refuse (s : State) (g : GateIx) (cmd : Option DispatchCommand) (why : RefusalReason) :
    (State.refuse s g cmd why).pending = s.pending := by cases cmd <;> rfl

@[simp] theorem pending_noticeState (s : State) (g : GateIx) (old new : GateState) :
    (State.noticeState s g old new).pending = s.pending := by
  unfold State.noticeState
  split <;> rfl

@[simp] theorem pending_caseTrip (s : State) (g : GateIx) (cmd : Option DispatchCommand) :
    (State.caseTrip s g cmd).1.pending = s.pending := by simp [State.caseTrip, State.tripClosure]

@[simp] theorem pending_releaseTrip (s : State) (g : GateIx) : (State.releaseTrip s g).pending = s.pending := by
  unfold State.releaseTrip
  dsimp only
  split <;> rfl

@[simp] theorem pending_dispatchTakes (s : State) (g : GateIx) : (State.dispatchTakes s g).pending = s.pending := by
  unfold State.dispatchTakes
  dsimp only
  split <;> simp

@[simp] theorem pending_caseDispatch (s : State) (g : GateIx) (c : DispatchCommand) (urgent : Bool) :
    (State.caseDispatch s g c urgent).1.pending = s.pending := by simp [State.caseDispatch]

@[simp] theorem pending_caseEngine (s : State) (g : GateIx) (cmd : Option DispatchCommand) :
    (State.caseEngine s g cmd).1.pending = s.pending := by simp [State.caseEngine]

@[simp] theorem pending_caseBlocked (s : State) (g : GateIx) (cmd : Option DispatchCommand) :
    (State.caseBlocked s g cmd).1.pending = s.pending := by simp [State.caseBlocked]

@[simp] theorem pending_countHold (s : State) (g : GateIx) : (State.countHold s g).pending = s.pending := by
  simp [State.countHold]

@[simp] theorem pending_caseSilent (s : State) (g : GateIx) : (State.caseSilent s g).1.pending = s.pending := by
  unfold State.caseSilent
  dsimp only
  split <;> simp

@[simp] theorem pending_laterCases (s : State) (g : GateIx) (cmd : Option DispatchCommand) :
    (State.laterCases s g cmd).1.pending = s.pending := by
  unfold State.laterCases
  cases cmd with
  | some c => dsimp only; (repeat' split) <;> simp
  | none => dsimp only; (repeat' split) <;> simp

@[simp] theorem pending_select (s : State) (g : GateIx) (cmd : Option DispatchCommand) :
    (State.select s g cmd).1.pending = s.pending := by
  unfold State.select
  dsimp only
  split
  · simp [State.caseUncounted]
  · split <;> simp

@[simp] theorem pending_slotNotReached (s : State) (g : GateIx) : (State.slotNotReached s g).pending = s.pending := by
  rw [slotNotReached_frame]

@[simp] theorem pending_retrackTo (s : State) (g : GateIx) (m : Nat) (st : GateState) (fault : Bool) :
    (State.retrackTo s g m st fault).pending = s.pending := by simp [State.retrackTo, State.retrack]

@[simp] theorem pending_block (s : State) (g : GateIx) (fault out : Bool) :
    (State.block s g fault out).pending = s.pending := by simp [State.block]

@[simp] theorem pending_deviationCheck (s : State) (g : GateIx) (m : Nat) :
    (State.deviationCheck s g m).pending = s.pending := by
  unfold State.deviationCheck
  dsimp only
  split
  · split <;> rfl
  · rfl

@[simp] theorem pending_actOnReport (s : State) (g : GateIx) (m : Nat) (d : DriveStatus) :
    (State.actOnReport s g m d).pending = s.pending := by
  unfold State.actOnReport
  dsimp only
  (repeat' split) <;> simp

@[simp] theorem pending_takePosition (s : State) (g : GateIx) (a b : Word) :
    (State.takePosition s g a b).pending = s.pending := by
  unfold State.takePosition
  dsimp only
  split <;> simp

@[simp] theorem pending_gateOut (s : State) (g : GateIx) : (State.gateOut s g).pending = s.pending := by
  unfold State.gateOut
  dsimp only
  split <;> simp

@[simp] theorem pending_gateIn (s : State) (g : GateIx) : (State.gateIn s g).pending = s.pending := by
  unfold State.gateIn
  dsimp only
  split
  · split <;> rfl
  · rfl

@[simp] theorem pending_installGate (s : State) (g : GateIx) : (State.installGate s g).pending = s.pending := by
  unfold State.installGate
  dsimp only
  split
  · simp
  · split <;> rfl

@[simp] theorem pending_installGates (s : State) : (State.installGates s).pending = s.pending :=
  foldl_keeps State.pending pending_installGate allGates s

@[simp] theorem pending_takeAges (s : State) : (State.takeAges s).pending = s.pending := by rw [takeAges_eq]

/-! #### The SCU and the engine (05, 07) -/

@[simp] theorem pending_floodTest (s : State) : (State.floodTest s).pending = s.pending := by
  obtain ⟨-, -, -, -, -, -, -, -, hpending⟩ := floodTest_frame s
  exact hpending

@[simp] theorem pending_installStation (s : State) : (State.installStation s).pending = s.pending :=
  pending_floodTest s

@[simp] theorem pending_setCurtail (s : State) (ceiling duration : Nat) :
    (State.setCurtail s ceiling duration).pending = s.pending := by
  unfold State.setCurtail
  split <;> rfl

@[simp] theorem pending_takeStage (s : State) (g : GaugeIx) (level : Word) (bad : Bool) :
    (State.takeStage s g level bad).pending = s.pending := by
  unfold State.takeStage
  dsimp only
  split
  · rfl
  · split
    · exact pending_floodTest _
    · rfl

@[simp] theorem pending_enter (s : State) (dst : Nat) (cause : EntryCause) :
    (State.enter s dst cause).pending = s.pending := by
  obtain ⟨-, -, -, -, -, -, -, hpending, -⟩ := enter_frame s dst cause
  exact hpending

@[simp] theorem pending_evaluate (s : State) : (State.evaluate s).pending = s.pending := by
  obtain ⟨-, -, -, -, -, -, -, hpending⟩ := evaluate_frame s
  exact hpending

@[simp] theorem pending_restart (s : State) : (State.restart s).pending = s.pending := pending_enter s _ _

/-! #### The links (06) -/

@[simp] theorem pending_produce (s : State) (p : Port) (m : Produced) :
    (State.produce s p m).pending = s.pending := by
  obtain ⟨-, -, -, -, -, -, -, -, hpending, -⟩ := produce_frame s p m
  exact hpending

@[simp] theorem pending_placeArrival (s : State) (e : Arrival) : (State.placeArrival s e).pending = s.pending := by
  unfold State.placeArrival
  split
  · rfl
  · split
    · rfl
    · split <;> rfl

@[simp] theorem pending_placeReply (s : State) (p : Port) (m : LinkMsg) :
    (State.placeReply s p m).pending = s.pending := by
  rw [placeReply_eq, State.setPort_pending]

@[simp] theorem pending_takeTaken (s : State) (p : Port) (m : LinkMsg) :
    (State.takeTaken s p m).pending = s.pending := by
  unfold State.takeTaken
  dsimp only
  split <;> simp

@[simp] theorem pending_disposeMsg (s : State) (p : Port) (m : LinkMsg) :
    (State.disposeMsg s p m).pending = s.pending := by
  unfold State.disposeMsg
  split
  · rfl
  · split
    · exact pending_takeTaken s p m
    · split
      · exact (pending_placeReply _ p m).trans (pending_placeArrival s _)
      · split
        · exact (pending_placeReply _ p m).trans (pending_setCurtail s _ _)
        · rfl

@[simp] theorem pending_validMsg (s : State) (p : Port) : (State.validMsg s p).pending = s.pending := by
  unfold State.validMsg
  dsimp only
  split <;> simp

@[simp] theorem pending_miswiredMsg (s : State) (p : Port) : (State.miswiredMsg s p).pending = s.pending := by
  unfold State.miswiredMsg
  dsimp only
  split <;> simp

theorem pending_linkArrival (s : State) (p : Port) (m : LinkMsg) : (State.linkArrival s p m).pending = s.pending := by
  unfold State.linkArrival
  split
  · rfl
  · split
    · rfl
    · split
      · exact pending_miswiredMsg s p
      · exact (pending_disposeMsg _ p m).trans (pending_validMsg s p)

theorem pending_byteTimeout (s : State) (p : Port) (n : Nat) : (State.byteTimeout s p n).pending = s.pending := by
  unfold State.byteTimeout
  split <;> simp

theorem pending_transmit (s : State) (p : Port) : (State.transmit s p).pending = s.pending := by
  obtain ⟨-, -, -, -, hpending⟩ := transmit_frame s p
  exact hpending

theorem pending_fitPort (s : State) (p : Port) : (State.fitPort s p).pending = s.pending := by
  unfold State.fitPort
  dsimp only
  split <;> simp [dropCounts_frame]

theorem pending_installLink (s : State) : (State.installLink s).pending = s.pending :=
  (pending_fitPort _ .down).trans (pending_fitPort s .up)

/-! #### The SPU and what a marker leaves owing (08, log 8) -/

@[simp] theorem pending_windowTest (s : State) : (State.windowTest s).pending = s.pending := by
  obtain ⟨-, -, -, -, hpending, -⟩ := windowTest_frame s
  exact hpending

@[simp] theorem pending_takeHeartbeat (s : State) (q : BitVec 4) : (State.takeHeartbeat s q).pending = s.pending := by
  unfold State.takeHeartbeat
  dsimp only
  (repeat' split) <;> simp

@[simp] theorem pending_handInput (s : State) (i : PanelInput) (level : Bool) :
    (State.handInput s i level).pending = s.pending := by
  obtain ⟨-, -, -, -, -, -, hpending⟩ := handInput_frame s i level
  exact hpending

@[simp] theorem pending_settle (s : State) : (State.settle s).pending = s.pending := by
  obtain ⟨-, -, -, hpending, -⟩ := settle_frame s
  exact hpending

/-- R148: the first reading, and what it hands on. -/
@[simp] theorem pending_firstReading (s : State) : (State.firstReading s).pending = s.pending := by
  have handed_on (u : State) (i : PanelInput) : (State.handIfActive u i).pending = u.pending := by
    unfold State.handIfActive
    split <;> simp
  have read (u : State) (i : PanelInput) : (State.readInput u i).pending = u.pending := rfl
  rw [State.firstReading, foldl_keeps State.pending handed_on, foldl_keeps State.pending read]

/-! #### The parts of a tick taken ahead (log 2) -/

theorem pending_tickPart (s : State) (x : TickPart) : (State.tickPart s x).pending = s.pending := by
  have port_part {p : Port} {r : LinkPort} {l : List Notice} {k : Nat}
      (h : PortPart p s (State.tickPart s x) r l k) : (State.tickPart s x).pending = s.pending := by
    obtain ⟨-, -, -, -, -, -, -, -, -, -, hpending⟩ := h.frame
    exact hpending
  cases x with
  | gap =>
    simp only [State.tickPart, State.raise, State.expire, State.ringLoss]
    (repeat' split) <;> rfl
  | silence p => exact port_part (tickPart_silence p s)
  | taken p => exact port_part (tickPart_taken p s)
  | beacon p => exact port_part (tickPart_beacon p s)
  | sample i =>
    obtain ⟨-, -, -, -, hpending⟩ := tickPart_sample_frame s i
    exact hpending

@[simp] theorem pending_takeAhead (s : State) (x : TickPart) : (State.takeAhead s x).pending = s.pending := by
  rcases takeAhead_cases s x with ⟨-, e⟩ | ⟨-, e⟩ <;> rw [e]
  exact pending_tickPart s x

theorem pending_tickAhead (s : State) (x : TickPart) : (State.tickAhead s x).pending = s.pending := by
  unfold State.tickAhead
  split <;> simp

theorem pending_driveInput (s : State) (i : PanelInput) (level sampled : Bool) :
    (State.driveInput s i level sampled).pending = s.pending := by
  unfold State.driveInput
  dsimp only
  split <;> simp

/-! #### Installs, completions and reset (09) -/

theorem pending_handInstall (s : State) (n : Nat) : (State.handInstall s n).pending = s.pending := by
  unfold State.handInstall
  split
  · exact pending_installGate s _
  · split
    · exact pending_installStation s
    · split
      · exact pending_restart s
      · split
        · exact pending_installLink s
        · rfl

theorem pending_install (s : State) (n : Nat) (words : WordStore) :
    (State.install s n words).pending = s.pending := by
  unfold State.install
  dsimp only
  rw [pending_handInstall]
  split
  · exact pending_windowTest s
  · rfl

theorem pending_takeReload (s : State) (x : InstallTaker) : (State.takeReload s x).pending = s.pending := by
  cases x with
  | adu => exact pending_installGates s
  | scu => exact pending_installStation s
  | sqe => exact pending_restart s
  | clu => exact pending_installLink s
  | mgu => rfl

theorem pending_completeReload (s : State) (order : List InstallTaker) :
    (State.completeReload s order).pending = s.pending := by
  unfold State.completeReload
  split
  · split
    · exact (foldl_keeps State.pending pending_takeReload _ _).trans (pending_windowTest s)
    · rfl
  · rfl

theorem pending_completeStore (s : State) (ok : Bool) : (State.completeStore s ok).pending = s.pending := by
  unfold State.completeStore
  split
  · split <;> rfl
  · rfl

theorem pending_completeCommission (s : State) (ok : Bool) :
    (State.completeCommission s ok).pending = s.pending := by
  unfold State.completeCommission
  split
  · dsimp only
    split
    · split <;> rfl
    · rfl
  · rfl

/-- R166: the start-up load, block by block. -/
theorem pending_completeLoad (s : State) : (State.completeLoad s).pending = s.pending := by
  have loaded : (State.imageLoaded s).pending = s.pending := by
    unfold State.imageLoaded
    dsimp only
    split <;> rfl
  by_cases hload : s.rpu.state = .load ∧ s.tst.resetAsserted = false
  · rw [completeLoad_eq hload, pending_firstReading]
    exact loaded
  · rw [State.completeLoad, if_neg hload]

/-- R149: a reset leaves the queue alone, whether it is taken or not. -/
theorem pending_assertReset (s : State) (short : Bool) : (State.assertReset s short).pending = s.pending := by
  unfold State.assertReset
  split <;> rfl

/-! #### Management requests (09) -/

@[simp] theorem pending_command (s : State) (c : Command) (arg : Nat) :
    (State.command s c arg).pending = s.pending := by
  cases c with
  | engineHold | engineRun | engineStep => exact pending_evaluate s
  | engineRestart => exact (pending_restart _).trans (pending_evaluate s)
  | store | reload | lockRaise | lockLower | scheduleStart | floodCancel => rfl
  | commissionLock =>
    simp only [State.command, State.startCommission]
    split <;> rfl
  | gateOut =>
    simp only [State.command]
    split <;> simp
  | gateIn =>
    simp only [State.command]
    split <;> simp
  | floodDeclare => exact pending_floodTest _
  | curtailRequest => exact pending_produce s _ _

@[simp] theorem pending_writeWord (s : State) (a : Nat) (b : Word) : (State.writeWord s a b).pending = s.pending := by
  unfold State.writeWord
  split
  · rfl
  · split <;> rfl

@[simp] theorem pending_setPointer (s : State) (sp : Space) (p : BitVec 12) :
    (State.setPointer s sp p).pending = s.pending := by cases sp <;> rfl

@[simp] theorem pending_perform (s : State) (op : Op) (f : Frame) :
    (State.perform s op f).1.pending = s.pending := by
  cases op with
  | read | openEdit | abandon | capture => rfl
  | readNext | setPointer => exact pending_setPointer s _ _
  | write => exact pending_writeWord s _ _
  | writeNext => exact (pending_setPointer _ _ _).trans (pending_writeWord s _ _)
  | check =>
    simp only [State.perform, State.checkInstall]
    split
    · exact pending_install s _ _
    · rfl
  | command =>
    simp only [State.perform]
    split <;> simp

@[simp] theorem pending_manage (s : State) (f : Frame) : (State.manage s f).1.pending = s.pending := by
  unfold State.manage
  split <;> simp

/-! #### The ring (01) -/

@[simp] theorem pending_emit (s : State) (f : Frame) : (State.emit s f).pending = s.pending := rfl

@[simp] theorem pending_passFrame (s : State) (f : Frame) : (State.passFrame s f).pending = s.pending := by
  simp [passFrame_eq]

@[simp] theorem pending_tap (s : State) (binding : Nat) (f : Frame) :
    (State.tap s binding f).pending = s.pending := by
  unfold State.tap
  (repeat' split) <;> simp

/-- R8 to R13: a frame in a slot, by the slot's role. -/
@[simp] theorem pending_slotFrame (s : State) (x : SlotTable) (p : Nat) (f : Frame) :
    (State.slotFrame s x p f).pending = s.pending := by
  unfold State.slotFrame
  split
  · split <;> simp [State.commandSlot]
  · simp
  · unfold State.managementSlot
    split
    · rfl
    · split
      · exact pending_manage s f
      · exact pending_passFrame s f
  · unfold State.noticeSlot
    split
    · split
      · rfl
      · exact pending_passFrame s f
    · exact pending_passFrame s f
  · unfold State.heartbeatSlot
    rw [pending_passFrame]
    split <;> simp
  · simp

@[simp] theorem pending_runFrame (s : State) (x : SlotTable) (f : Frame) :
    (State.runFrame s x f).pending = s.pending := by
  unfold State.runFrame
  dsimp only
  split <;> simp

@[simp] theorem pending_closeCycle (s : State) : (State.closeCycle s).pending = s.pending := by
  unfold State.closeCycle
  split
  · split
    · exact foldl_keeps State.pending pending_slotNotReached _ _
    · rfl
  · rfl

@[simp] theorem pending_endLoss (s : State) : (State.endLoss s).pending = s.pending := by rw [endLoss_eq]

theorem pending_takeMarker (s : State) (f : Frame) (late : Bool) : (State.takeMarker s f late).pending = s.pending := by
  have marked (u : State) : (State.markerEvent u late).pending = u.pending := by cases late <;> rfl
  have opened (u : State) (n : BitVec 32) : (State.openCycle u n).pending = u.pending := rfl
  simp only [State.takeMarker, pending_emit, marked, opened, pending_endLoss, pending_closeCycle, pending_settle]

/-- R1: any frame taken at ring-in. -/
theorem pending_ringArrival (s : State) (f : Frame) (late : Bool) :
    (State.ringArrival s f late).pending = s.pending := by
  unfold State.ringArrival
  split
  · rfl
  · split
    · exact pending_takeMarker s f late
    · dsimp only
      split <;> simp

/-! #### Every command -/

open Laws in
/-- Log 1: every command answers a next state, and that state's queue is the one it was given. -/
theorem exec_next (c : Instr) (s : State) : ∃ t, exec c s = .next t ∧ t.pending = s.pending := by
  cases hc : Families.ringFrame c with
  | some f =>
    obtain ⟨late, e⟩ := exec_ringFrame hc s
    exact ⟨_, e, pending_ringArrival s f late⟩
  | none =>
    cases c with
    | powerOn | resetNRelease => exact ⟨_, rfl, rfl⟩
    | resetNAssert short => exact ⟨_, rfl, pending_assertReset s short⟩
    | startUpLoadComplete => exact ⟨_, rfl, pending_completeLoad s⟩
    | ringLoss | beaconDue p | silenceExpiry p | takenTimeout p => exact ⟨_, rfl, pending_tickAhead s _⟩
    | intervalBoundary =>
      obtain ⟨-, -, -, hpending⟩ := takeBoundary_frame s
      exact ⟨_, rfl, hpending⟩
    | reRating =>
      obtain ⟨-, -, -, hpending, -⟩ := takeReRating_frame s
      exact ⟨_, rfl, hpending⟩
    | arrivalMaturity =>
      obtain ⟨-, -, -, hpending, -⟩ := takeMaturity_frame s
      exact ⟨_, rfl, hpending⟩
    | supervisionWindowExpiry => exact ⟨_, rfl, pending_windowTest s⟩
    | engineEvaluation => exact ⟨_, rfl, pending_evaluate s⟩
    | actionListApply =>
      obtain ⟨-, -, -, -, -, hpending, -⟩ := takeActions_frame s
      exact ⟨_, rfl, hpending⟩
    | curtailUp =>
      obtain ⟨-, -, -, -, -, hpending, -⟩ := takeCurtail_frame s
      exact ⟨_, rfl, hpending⟩
    | storeComplete ok => exact ⟨_, rfl, pending_completeStore s ok⟩
    | reloadComplete order => exact ⟨_, rfl, pending_completeReload s order⟩
    | commissionLockComplete ok => exact ⟨_, rfl, pending_completeCommission s ok⟩
    | panelInputChange i level sampled => exact ⟨_, rfl, pending_driveInput s i level sampled⟩
    | linkTransmit p => exact ⟨_, rfl, pending_transmit s p⟩
    | linkByteTimeout p n => exact ⟨_, rfl, pending_byteTimeout s p n⟩
    | beacon p m | taken p m | release m | curtail m | wrongDirectionMessage p k m | badCheckMessage p m
    | miswiredMessage p m => exact ⟨_, rfl, pending_linkArrival s _ _⟩
    | _ => cases hc

end Sys2Proof.Machine

namespace Sys2Proof.Steps

open Machine

/-- Settles O1: a step is defined by the front of the queue, and no act of a command reaches the rest. -/
theorem stepRunsFrontCommand : Obligations.StepRunsFrontCommand := by
  unfold Obligations.StepRunsFrontCommand
  intro c rest s
  exact ⟨rfl, exec_next c { s with pending := rest }⟩

end Sys2Proof.Steps
